-- ==== Sys2Proof/Word.lean ====
section
/-! DEFINITION. The word types of the machine (spec/00_scope.md R6, R7, R17) and the numbers that name
registers. Only types and their plainest names: whatever a test could show wrong stands under Machine/. -/

namespace Sys2Proof

/-- A memory byte: "the memory byte is 8 bits" (R6). -/
abbrev Byte := BitVec 8

/-- A 32-bit instruction word, and a 32-bit register (R6, R17). -/
abbrev Word := BitVec 32

/-- A 64-bit doubleword: general registers, pc, HI, LO, virtual addresses (R6). -/
abbrev DWord := BitVec 64

/-- A physical byte address, `PA_BITS = 36` bits (R7, R101). -/
abbrev PAddr := BitVec 36

/-- A general register number `$0` .. `$31` (R20). -/
abbrev Reg := Fin 32

/-- A floating-point register number `$f0` .. `$f31` (R24). -/
abbrev FReg := Fin 32

/-- A coprocessor-0 or floating-point control register number (R34, R40). -/
abbrev CReg := Fin 32

end Sys2Proof
end

