-- ==== Sys2Proof/Syntax.lean ====
section
/-! DEFINITION. The instructions: one constructor per row of spec/opcode_table.json (spec/30_encoding.md).
An operand keeps the name of its field. A field the decoder ignores (R192) is no operand. The `code`, `op`
and `cofun` fields are operands although the hardware does not examine them (R183, R426, R452). Counts and
codes are `Nat`s, bounded by WellFormed; immediates that the machine extends are bit vectors. -/

namespace Sys2Proof

/-- An instruction of the MIPS-III core; each constructor names its row's rule. -/
inductive Instr where
  -- Integer arithmetic, logic and comparison (spec/41_integer_alu.md)
  /-- ADD, R241. -/
  | add (rd rs rt : Reg)
  /-- ADDU, R242. -/
  | addu (rd rs rt : Reg)
  /-- SUB, R243. -/
  | sub (rd rs rt : Reg)
  /-- SUBU, R244. -/
  | subu (rd rs rt : Reg)
  /-- DADD, R245. -/
  | dadd (rd rs rt : Reg)
  /-- DADDU, R246. -/
  | daddu (rd rs rt : Reg)
  /-- DSUB, R247. -/
  | dsub (rd rs rt : Reg)
  /-- DSUBU, R248. -/
  | dsubu (rd rs rt : Reg)
  /-- AND, R249. -/
  | and (rd rs rt : Reg)
  /-- OR, R250. -/
  | or (rd rs rt : Reg)
  /-- XOR, R251. -/
  | xor (rd rs rt : Reg)
  /-- NOR, R252. -/
  | nor (rd rs rt : Reg)
  /-- SLT, R253. -/
  | slt (rd rs rt : Reg)
  /-- SLTU, R254. -/
  | sltu (rd rs rt : Reg)
  /-- ADDI, R255. -/
  | addi (rt rs : Reg) (imm : BitVec 16)
  /-- ADDIU, R256. -/
  | addiu (rt rs : Reg) (imm : BitVec 16)
  /-- DADDI, R257. -/
  | daddi (rt rs : Reg) (imm : BitVec 16)
  /-- DADDIU, R258. -/
  | daddiu (rt rs : Reg) (imm : BitVec 16)
  /-- SLTI, R259. -/
  | slti (rt rs : Reg) (imm : BitVec 16)
  /-- SLTIU, R260. -/
  | sltiu (rt rs : Reg) (imm : BitVec 16)
  /-- ANDI, R261. -/
  | andi (rt rs : Reg) (imm : BitVec 16)
  /-- ORI, R262. -/
  | ori (rt rs : Reg) (imm : BitVec 16)
  /-- XORI, R263. -/
  | xori (rt rs : Reg) (imm : BitVec 16)
  /-- LUI, R264. -/
  | lui (rt : Reg) (imm : BitVec 16)
  -- Shifts (spec/42_shifts.md)
  /-- SLL, R281. -/
  | sll (rd rt : Reg) (sa : Nat)
  /-- SRL, R282. -/
  | srl (rd rt : Reg) (sa : Nat)
  /-- SRA, R283. -/
  | sra (rd rt : Reg) (sa : Nat)
  /-- SLLV, R284. -/
  | sllv (rd rt rs : Reg)
  /-- SRLV, R285. -/
  | srlv (rd rt rs : Reg)
  /-- SRAV, R286. -/
  | srav (rd rt rs : Reg)
  /-- DSLL, R287. -/
  | dsll (rd rt : Reg) (sa : Nat)
  /-- DSRL, R288. -/
  | dsrl (rd rt : Reg) (sa : Nat)
  /-- DSRA, R289. -/
  | dsra (rd rt : Reg) (sa : Nat)
  /-- DSLL32, R290. -/
  | dsll32 (rd rt : Reg) (sa : Nat)
  /-- DSRL32, R291. -/
  | dsrl32 (rd rt : Reg) (sa : Nat)
  /-- DSRA32, R292. -/
  | dsra32 (rd rt : Reg) (sa : Nat)
  /-- DSLLV, R293. -/
  | dsllv (rd rt rs : Reg)
  /-- DSRLV, R294. -/
  | dsrlv (rd rt rs : Reg)
  /-- DSRAV, R295. -/
  | dsrav (rd rt rs : Reg)
  -- Multiply, divide, HI and LO (spec/43_muldiv.md)
  /-- MULT, R301. -/
  | mult (rs rt : Reg)
  /-- MULTU, R302. -/
  | multu (rs rt : Reg)
  /-- DIV, R303. -/
  | div (rs rt : Reg)
  /-- DIVU, R304. -/
  | divu (rs rt : Reg)
  /-- DMULT, R305. -/
  | dmult (rs rt : Reg)
  /-- DMULTU, R306. -/
  | dmultu (rs rt : Reg)
  /-- DDIV, R307. -/
  | ddiv (rs rt : Reg)
  /-- DDIVU, R308. -/
  | ddivu (rs rt : Reg)
  /-- MFHI, R309. -/
  | mfhi (rd : Reg)
  /-- MTHI, R310. -/
  | mthi (rs : Reg)
  /-- MFLO, R311. -/
  | mflo (rd : Reg)
  /-- MTLO, R312. -/
  | mtlo (rs : Reg)
  -- Jumps and branches (spec/44_branch_jump.md)
  /-- J, R324. -/
  | j (target : BitVec 26)
  /-- JAL, R325. -/
  | jal (target : BitVec 26)
  /-- JR, R326. -/
  | jr (rs : Reg)
  /-- JALR, R327. -/
  | jalr (rd rs : Reg)
  /-- BEQ, R328. -/
  | beq (rs rt : Reg) (offset : BitVec 16)
  /-- BNE, R329. -/
  | bne (rs rt : Reg) (offset : BitVec 16)
  /-- BLEZ, R330. -/
  | blez (rs : Reg) (offset : BitVec 16)
  /-- BGTZ, R331. -/
  | bgtz (rs : Reg) (offset : BitVec 16)
  /-- BEQL, R332. -/
  | beql (rs rt : Reg) (offset : BitVec 16)
  /-- BNEL, R333. -/
  | bnel (rs rt : Reg) (offset : BitVec 16)
  /-- BLEZL, R334. -/
  | blezl (rs : Reg) (offset : BitVec 16)
  /-- BGTZL, R335. -/
  | bgtzl (rs : Reg) (offset : BitVec 16)
  /-- BLTZ, R336. -/
  | bltz (rs : Reg) (offset : BitVec 16)
  /-- BGEZ, R337. -/
  | bgez (rs : Reg) (offset : BitVec 16)
  /-- BLTZL, R338. -/
  | bltzl (rs : Reg) (offset : BitVec 16)
  /-- BGEZL, R339. -/
  | bgezl (rs : Reg) (offset : BitVec 16)
  /-- BLTZAL, R340. -/
  | bltzal (rs : Reg) (offset : BitVec 16)
  /-- BGEZAL, R341. -/
  | bgezal (rs : Reg) (offset : BitVec 16)
  /-- BLTZALL, R342. -/
  | bltzall (rs : Reg) (offset : BitVec 16)
  /-- BGEZALL, R343. -/
  | bgezall (rs : Reg) (offset : BitVec 16)
  -- Loads and stores (spec/45_load_store.md)
  /-- LB, R364. -/
  | lb (rt base : Reg) (offset : BitVec 16)
  /-- LBU, R365. -/
  | lbu (rt base : Reg) (offset : BitVec 16)
  /-- LH, R366. -/
  | lh (rt base : Reg) (offset : BitVec 16)
  /-- LHU, R367. -/
  | lhu (rt base : Reg) (offset : BitVec 16)
  /-- LW, R368. -/
  | lw (rt base : Reg) (offset : BitVec 16)
  /-- LWU, R369. -/
  | lwu (rt base : Reg) (offset : BitVec 16)
  /-- LD, R370. -/
  | ld (rt base : Reg) (offset : BitVec 16)
  /-- SB, R371. -/
  | sb (rt base : Reg) (offset : BitVec 16)
  /-- SH, R372. -/
  | sh (rt base : Reg) (offset : BitVec 16)
  /-- SW, R373. -/
  | sw (rt base : Reg) (offset : BitVec 16)
  /-- SD, R374. -/
  | sd (rt base : Reg) (offset : BitVec 16)
  /-- LWL, R375. -/
  | lwl (rt base : Reg) (offset : BitVec 16)
  /-- LWR, R376. -/
  | lwr (rt base : Reg) (offset : BitVec 16)
  /-- SWL, R377. -/
  | swl (rt base : Reg) (offset : BitVec 16)
  /-- SWR, R378. -/
  | swr (rt base : Reg) (offset : BitVec 16)
  /-- LDL, R379. -/
  | ldl (rt base : Reg) (offset : BitVec 16)
  /-- LDR, R380. -/
  | ldr (rt base : Reg) (offset : BitVec 16)
  /-- SDL, R381. -/
  | sdl (rt base : Reg) (offset : BitVec 16)
  /-- SDR, R382. -/
  | sdr (rt base : Reg) (offset : BitVec 16)
  /-- LL, R383. -/
  | ll (rt base : Reg) (offset : BitVec 16)
  /-- LLD, R384. -/
  | lld (rt base : Reg) (offset : BitVec 16)
  /-- SC, R385. -/
  | sc (rt base : Reg) (offset : BitVec 16)
  /-- SCD, R386. -/
  | scd (rt base : Reg) (offset : BitVec 16)
  -- Traps and system (spec/46_trap_system.md)
  /-- TGE, R411. -/
  | tge (rs rt : Reg) (code : Nat)
  /-- TGEU, R412. -/
  | tgeu (rs rt : Reg) (code : Nat)
  /-- TLT, R413. -/
  | tlt (rs rt : Reg) (code : Nat)
  /-- TLTU, R414. -/
  | tltu (rs rt : Reg) (code : Nat)
  /-- TEQ, R415. -/
  | teq (rs rt : Reg) (code : Nat)
  /-- TNE, R416. -/
  | tne (rs rt : Reg) (code : Nat)
  /-- TGEI, R417. -/
  | tgei (rs : Reg) (imm : BitVec 16)
  /-- TGEIU, R418. -/
  | tgeiu (rs : Reg) (imm : BitVec 16)
  /-- TLTI, R419. -/
  | tlti (rs : Reg) (imm : BitVec 16)
  /-- TLTIU, R420. -/
  | tltiu (rs : Reg) (imm : BitVec 16)
  /-- TEQI, R421. -/
  | teqi (rs : Reg) (imm : BitVec 16)
  /-- TNEI, R422. -/
  | tnei (rs : Reg) (imm : BitVec 16)
  /-- SYSCALL, R423. -/
  | syscall (code : Nat)
  /-- BREAK, R424. -/
  | breakI (code : Nat)
  /-- SYNC, R425. -/
  | sync
  /-- CACHE, R426. -/
  | cache (op : Nat) (base : Reg) (offset : BitVec 16)
  -- Coprocessor 0, the TLB, coprocessor 2 (spec/47_cp0_tlb.md, spec/60_exceptions.md R623)
  /-- MFC0, R441. -/
  | mfc0 (rt : Reg) (rd : CReg)
  /-- DMFC0, R442. -/
  | dmfc0 (rt : Reg) (rd : CReg)
  /-- MTC0, R443. -/
  | mtc0 (rt : Reg) (rd : CReg)
  /-- DMTC0, R444. -/
  | dmtc0 (rt : Reg) (rd : CReg)
  /-- TLBR, R447. -/
  | tlbr
  /-- TLBWI, R448. -/
  | tlbwi
  /-- TLBWR, R449. -/
  | tlbwr
  /-- TLBP, R450. -/
  | tlbp
  /-- ERET, R623. -/
  | eret
  /-- COP2, R452. -/
  | cop2 (cofun : Nat)
  /-- LWC2, R453. -/
  | lwc2 (rt base : Reg) (offset : BitVec 16)
  /-- LDC2, R454. -/
  | ldc2 (rt base : Reg) (offset : BitVec 16)
  /-- SWC2, R455. -/
  | swc2 (rt base : Reg) (offset : BitVec 16)
  /-- SDC2, R456. -/
  | sdc2 (rt base : Reg) (offset : BitVec 16)
  -- Coprocessor-1 moves, branches, loads and stores (spec/48_fpu_basic.md)
  /-- MFC1, R484. -/
  | mfc1 (rt : Reg) (fs : FReg)
  /-- DMFC1, R485. -/
  | dmfc1 (rt : Reg) (fs : FReg)
  /-- CFC1, R486. -/
  | cfc1 (rt : Reg) (fs : CReg)
  /-- MTC1, R487. -/
  | mtc1 (rt : Reg) (fs : FReg)
  /-- DMTC1, R488. -/
  | dmtc1 (rt : Reg) (fs : FReg)
  /-- CTC1, R489. -/
  | ctc1 (rt : Reg) (fs : CReg)
  /-- BC1F, R490. -/
  | bc1f (offset : BitVec 16)
  /-- BC1T, R491. -/
  | bc1t (offset : BitVec 16)
  /-- BC1FL, R492. -/
  | bc1fl (offset : BitVec 16)
  /-- BC1TL, R493. -/
  | bc1tl (offset : BitVec 16)
  /-- LWC1, R494. -/
  | lwc1 (ft : FReg) (base : Reg) (offset : BitVec 16)
  /-- LDC1, R495. -/
  | ldc1 (ft : FReg) (base : Reg) (offset : BitVec 16)
  /-- SWC1, R496. -/
  | swc1 (ft : FReg) (base : Reg) (offset : BitVec 16)
  /-- SDC1, R497. -/
  | sdc1 (ft : FReg) (base : Reg) (offset : BitVec 16)
  -- Floating-point computation (spec/49_fpu_arith.md)
  /-- ADD.S, R525. -/
  | addS (fd fs ft : FReg)
  /-- ADD.D, R526. -/
  | addD (fd fs ft : FReg)
  /-- SUB.S, R527. -/
  | subS (fd fs ft : FReg)
  /-- SUB.D, R528. -/
  | subD (fd fs ft : FReg)
  /-- MUL.S, R529. -/
  | mulS (fd fs ft : FReg)
  /-- MUL.D, R530. -/
  | mulD (fd fs ft : FReg)
  /-- DIV.S, R531. -/
  | divS (fd fs ft : FReg)
  /-- DIV.D, R532. -/
  | divD (fd fs ft : FReg)
  /-- SQRT.S, R533. -/
  | sqrtS (fd fs : FReg)
  /-- SQRT.D, R534. -/
  | sqrtD (fd fs : FReg)
  /-- ABS.S, R535. -/
  | absS (fd fs : FReg)
  /-- ABS.D, R536. -/
  | absD (fd fs : FReg)
  /-- MOV.S, R537. -/
  | movS (fd fs : FReg)
  /-- MOV.D, R538. -/
  | movD (fd fs : FReg)
  /-- NEG.S, R539. -/
  | negS (fd fs : FReg)
  /-- NEG.D, R540. -/
  | negD (fd fs : FReg)
  /-- ROUND.L.S, R541. -/
  | roundLS (fd fs : FReg)
  /-- ROUND.L.D, R542. -/
  | roundLD (fd fs : FReg)
  /-- TRUNC.L.S, R543. -/
  | truncLS (fd fs : FReg)
  /-- TRUNC.L.D, R544. -/
  | truncLD (fd fs : FReg)
  /-- CEIL.L.S, R545. -/
  | ceilLS (fd fs : FReg)
  /-- CEIL.L.D, R546. -/
  | ceilLD (fd fs : FReg)
  /-- FLOOR.L.S, R547. -/
  | floorLS (fd fs : FReg)
  /-- FLOOR.L.D, R548. -/
  | floorLD (fd fs : FReg)
  /-- ROUND.W.S, R549. -/
  | roundWS (fd fs : FReg)
  /-- ROUND.W.D, R550. -/
  | roundWD (fd fs : FReg)
  /-- TRUNC.W.S, R551. -/
  | truncWS (fd fs : FReg)
  /-- TRUNC.W.D, R552. -/
  | truncWD (fd fs : FReg)
  /-- CEIL.W.S, R553. -/
  | ceilWS (fd fs : FReg)
  /-- CEIL.W.D, R554. -/
  | ceilWD (fd fs : FReg)
  /-- FLOOR.W.S, R555. -/
  | floorWS (fd fs : FReg)
  /-- FLOOR.W.D, R556. -/
  | floorWD (fd fs : FReg)
  /-- CVT.S.D, R557. -/
  | cvtSD (fd fs : FReg)
  /-- CVT.S.W, R558. -/
  | cvtSW (fd fs : FReg)
  /-- CVT.S.L, R559. -/
  | cvtSL (fd fs : FReg)
  /-- CVT.D.S, R560. -/
  | cvtDS (fd fs : FReg)
  /-- CVT.D.W, R561. -/
  | cvtDW (fd fs : FReg)
  /-- CVT.D.L, R562. -/
  | cvtDL (fd fs : FReg)
  /-- CVT.W.S, R563. -/
  | cvtWS (fd fs : FReg)
  /-- CVT.W.D, R564. -/
  | cvtWD (fd fs : FReg)
  /-- CVT.L.S, R565. -/
  | cvtLS (fd fs : FReg)
  /-- CVT.L.D, R566. -/
  | cvtLD (fd fs : FReg)
  /-- C.F.S, R567. -/
  | cFS (fs ft : FReg)
  /-- C.F.D, R568. -/
  | cFD (fs ft : FReg)
  /-- C.UN.S, R569. -/
  | cUnS (fs ft : FReg)
  /-- C.UN.D, R570. -/
  | cUnD (fs ft : FReg)
  /-- C.EQ.S, R571. -/
  | cEqS (fs ft : FReg)
  /-- C.EQ.D, R572. -/
  | cEqD (fs ft : FReg)
  /-- C.UEQ.S, R573. -/
  | cUeqS (fs ft : FReg)
  /-- C.UEQ.D, R574. -/
  | cUeqD (fs ft : FReg)
  /-- C.OLT.S, R575. -/
  | cOltS (fs ft : FReg)
  /-- C.OLT.D, R576. -/
  | cOltD (fs ft : FReg)
  /-- C.ULT.S, R577. -/
  | cUltS (fs ft : FReg)
  /-- C.ULT.D, R578. -/
  | cUltD (fs ft : FReg)
  /-- C.OLE.S, R579. -/
  | cOleS (fs ft : FReg)
  /-- C.OLE.D, R580. -/
  | cOleD (fs ft : FReg)
  /-- C.ULE.S, R581. -/
  | cUleS (fs ft : FReg)
  /-- C.ULE.D, R582. -/
  | cUleD (fs ft : FReg)
  /-- C.SF.S, R583. -/
  | cSfS (fs ft : FReg)
  /-- C.SF.D, R584. -/
  | cSfD (fs ft : FReg)
  /-- C.NGLE.S, R585. -/
  | cNgleS (fs ft : FReg)
  /-- C.NGLE.D, R586. -/
  | cNgleD (fs ft : FReg)
  /-- C.SEQ.S, R587. -/
  | cSeqS (fs ft : FReg)
  /-- C.SEQ.D, R588. -/
  | cSeqD (fs ft : FReg)
  /-- C.NGL.S, R589. -/
  | cNglS (fs ft : FReg)
  /-- C.NGL.D, R590. -/
  | cNglD (fs ft : FReg)
  /-- C.LT.S, R591. -/
  | cLtS (fs ft : FReg)
  /-- C.LT.D, R592. -/
  | cLtD (fs ft : FReg)
  /-- C.NGE.S, R593. -/
  | cNgeS (fs ft : FReg)
  /-- C.NGE.D, R594. -/
  | cNgeD (fs ft : FReg)
  /-- C.LE.S, R595. -/
  | cLeS (fs ft : FReg)
  /-- C.LE.D, R596. -/
  | cLeD (fs ft : FReg)
  /-- C.NGT.S, R597. -/
  | cNgtS (fs ft : FReg)
  /-- C.NGT.D, R598. -/
  | cNgtD (fs ft : FReg)
  deriving DecidableEq, Repr

end Sys2Proof
end

