-- ==== Sys2Proof/Decode.lean ====
section
/-! DEFINITION. Decoding and encoding (spec/30_encoding.md). `decode` is total on any word and answers an
instruction or the kind of reserved word it is (R193); it follows the procedure of R184: the primary opcode,
then the selecting field of the group. `encode` writes the word of a well-formed instruction from the same
maps (R185 to R191), with every ignored field zero (R192). -/

namespace Sys2Proof

/-- The three kinds of reserved word (R193): outside the coprocessor opcodes (RI), inside COP0 (CpU or RI,
R440), inside COP1 (CpU or FPE, R599). -/
inductive ReservedKind where
  | plain
  | cop0
  | cop1
  deriving DecidableEq, Repr

/-- What a word decodes to. -/
inductive Decoded where
  | instr (i : Instr)
  | reserved (k : ReservedKind)
  deriving DecidableEq, Repr

/-! ## Fields (R181, R182) -/

/-- `opcode`, bits 31:26. -/
def opcodeF (w : Word) : BitVec 6 := w.extractLsb' 26 6

/-- Bits 25:21 as a selector: `sub`, `fmt`, and bit 25 of the CO group. -/
def subF (w : Word) : BitVec 5 := w.extractLsb' 21 5

/-- Bits 20:16 as a selector: REGIMM and BC1. -/
def selF (w : Word) : BitVec 5 := w.extractLsb' 16 5

/-- `funct`, bits 5:0. -/
def functF (w : Word) : BitVec 6 := w.extractLsb' 0 6

/-- `rs` (also `base`), bits 25:21. -/
def rsF (w : Word) : Reg := (w.extractLsb' 21 5).toFin

/-- `rt` (also `ft`), bits 20:16. -/
def rtF (w : Word) : Reg := (w.extractLsb' 16 5).toFin

/-- `rd` (also `fs`), bits 15:11. -/
def rdF (w : Word) : Reg := (w.extractLsb' 11 5).toFin

/-- `fd`, bits 10:6. -/
def fdF (w : Word) : FReg := (w.extractLsb' 6 5).toFin

/-- `sa`, bits 10:6. -/
def saF (w : Word) : Nat := (w.extractLsb' 6 5).toNat

/-- `op` of CACHE, bits 20:16. -/
def opF (w : Word) : Nat := (w.extractLsb' 16 5).toNat

/-- `imm` (also `offset`), bits 15:0. -/
def immF (w : Word) : BitVec 16 := w.extractLsb' 0 16

/-- `target` of J and JAL, bits 25:0. -/
def targetF (w : Word) : BitVec 26 := w.extractLsb' 0 26

/-- `code` of SYSCALL and BREAK, bits 25:6. -/
def codeF (w : Word) : Nat := (w.extractLsb' 6 20).toNat

/-- `code` of the register traps, bits 15:6. -/
def trapCodeF (w : Word) : Nat := (w.extractLsb' 6 10).toNat

/-- `cofun` of COP2, bits 25:0. -/
def cofunF (w : Word) : Nat := (w.extractLsb' 0 26).toNat

/-! ## The maps -/

/-- SPECIAL map, `opcode = 0`, by `funct` (R186). -/
def decodeSpecial (w : Word) : Decoded :=
  match (functF w).toNat with
  | 0x00 => .instr (.sll (rdF w) (rtF w) (saF w))
  | 0x02 => .instr (.srl (rdF w) (rtF w) (saF w))
  | 0x03 => .instr (.sra (rdF w) (rtF w) (saF w))
  | 0x04 => .instr (.sllv (rdF w) (rtF w) (rsF w))
  | 0x06 => .instr (.srlv (rdF w) (rtF w) (rsF w))
  | 0x07 => .instr (.srav (rdF w) (rtF w) (rsF w))
  | 0x08 => .instr (.jr (rsF w))
  | 0x09 => .instr (.jalr (rdF w) (rsF w))
  | 0x0C => .instr (.syscall (codeF w))
  | 0x0D => .instr (.breakI (codeF w))
  | 0x0F => .instr (.sync)
  | 0x10 => .instr (.mfhi (rdF w))
  | 0x11 => .instr (.mthi (rsF w))
  | 0x12 => .instr (.mflo (rdF w))
  | 0x13 => .instr (.mtlo (rsF w))
  | 0x14 => .instr (.dsllv (rdF w) (rtF w) (rsF w))
  | 0x16 => .instr (.dsrlv (rdF w) (rtF w) (rsF w))
  | 0x17 => .instr (.dsrav (rdF w) (rtF w) (rsF w))
  | 0x18 => .instr (.mult (rsF w) (rtF w))
  | 0x19 => .instr (.multu (rsF w) (rtF w))
  | 0x1A => .instr (.div (rsF w) (rtF w))
  | 0x1B => .instr (.divu (rsF w) (rtF w))
  | 0x1C => .instr (.dmult (rsF w) (rtF w))
  | 0x1D => .instr (.dmultu (rsF w) (rtF w))
  | 0x1E => .instr (.ddiv (rsF w) (rtF w))
  | 0x1F => .instr (.ddivu (rsF w) (rtF w))
  | 0x20 => .instr (.add (rdF w) (rsF w) (rtF w))
  | 0x21 => .instr (.addu (rdF w) (rsF w) (rtF w))
  | 0x22 => .instr (.sub (rdF w) (rsF w) (rtF w))
  | 0x23 => .instr (.subu (rdF w) (rsF w) (rtF w))
  | 0x24 => .instr (.and (rdF w) (rsF w) (rtF w))
  | 0x25 => .instr (.or (rdF w) (rsF w) (rtF w))
  | 0x26 => .instr (.xor (rdF w) (rsF w) (rtF w))
  | 0x27 => .instr (.nor (rdF w) (rsF w) (rtF w))
  | 0x2A => .instr (.slt (rdF w) (rsF w) (rtF w))
  | 0x2B => .instr (.sltu (rdF w) (rsF w) (rtF w))
  | 0x2C => .instr (.dadd (rdF w) (rsF w) (rtF w))
  | 0x2D => .instr (.daddu (rdF w) (rsF w) (rtF w))
  | 0x2E => .instr (.dsub (rdF w) (rsF w) (rtF w))
  | 0x2F => .instr (.dsubu (rdF w) (rsF w) (rtF w))
  | 0x30 => .instr (.tge (rsF w) (rtF w) (trapCodeF w))
  | 0x31 => .instr (.tgeu (rsF w) (rtF w) (trapCodeF w))
  | 0x32 => .instr (.tlt (rsF w) (rtF w) (trapCodeF w))
  | 0x33 => .instr (.tltu (rsF w) (rtF w) (trapCodeF w))
  | 0x34 => .instr (.teq (rsF w) (rtF w) (trapCodeF w))
  | 0x36 => .instr (.tne (rsF w) (rtF w) (trapCodeF w))
  | 0x38 => .instr (.dsll (rdF w) (rtF w) (saF w))
  | 0x3A => .instr (.dsrl (rdF w) (rtF w) (saF w))
  | 0x3B => .instr (.dsra (rdF w) (rtF w) (saF w))
  | 0x3C => .instr (.dsll32 (rdF w) (rtF w) (saF w))
  | 0x3E => .instr (.dsrl32 (rdF w) (rtF w) (saF w))
  | 0x3F => .instr (.dsra32 (rdF w) (rtF w) (saF w))
  | _ => .reserved .plain

/-- REGIMM map, `opcode = 1`, by bits 20:16 (R187). -/
def decodeRegimm (w : Word) : Decoded :=
  match (selF w).toNat with
  | 0x00 => .instr (.bltz (rsF w) (immF w))
  | 0x01 => .instr (.bgez (rsF w) (immF w))
  | 0x02 => .instr (.bltzl (rsF w) (immF w))
  | 0x03 => .instr (.bgezl (rsF w) (immF w))
  | 0x08 => .instr (.tgei (rsF w) (immF w))
  | 0x09 => .instr (.tgeiu (rsF w) (immF w))
  | 0x0A => .instr (.tlti (rsF w) (immF w))
  | 0x0B => .instr (.tltiu (rsF w) (immF w))
  | 0x0C => .instr (.teqi (rsF w) (immF w))
  | 0x0E => .instr (.tnei (rsF w) (immF w))
  | 0x10 => .instr (.bltzal (rsF w) (immF w))
  | 0x11 => .instr (.bgezal (rsF w) (immF w))
  | 0x12 => .instr (.bltzall (rsF w) (immF w))
  | 0x13 => .instr (.bgezall (rsF w) (immF w))
  | _ => .reserved .plain

/-- The CO group of COP0, by `funct` (R188). Bits 24:6 are ignored (R192), but for ERET, which is matched on all
32 bits (R623, D6, U9; log entry 8). -/
def decodeCo (w : Word) : Decoded :=
  match (functF w).toNat with
  | 0x01 => .instr (.tlbr)
  | 0x02 => .instr (.tlbwi)
  | 0x06 => .instr (.tlbwr)
  | 0x08 => .instr (.tlbp)
  | 0x18 => if w = 0x42000018#32 then .instr .eret else .reserved .cop0
  | _ => .reserved .cop0

/-- COP0 map, `opcode = 0x10`: bit 25 selects the CO group, else bits 25:21 select a move (R188). -/
def decodeCop0 (w : Word) : Decoded :=
  if (subF w).getLsbD 4 then decodeCo w
  else
    match (subF w).toNat with
    | 0x00 => .instr (.mfc0 (rtF w) (rdF w))
    | 0x01 => .instr (.dmfc0 (rtF w) (rdF w))
    | 0x04 => .instr (.mtc0 (rtF w) (rdF w))
    | 0x05 => .instr (.dmtc0 (rtF w) (rdF w))
    | _ => .reserved .cop0

/-- BC1, by bits 20:16 (R189). -/
def decodeBc1 (w : Word) : Decoded :=
  match (selF w).toNat with
  | 0x00 => .instr (.bc1f (immF w))
  | 0x01 => .instr (.bc1t (immF w))
  | 0x02 => .instr (.bc1fl (immF w))
  | 0x03 => .instr (.bc1tl (immF w))
  | _ => .reserved .cop1

/-- COP1 format S, by `funct` (R190). -/
def decodeFmtS (w : Word) : Decoded :=
  match (functF w).toNat with
  | 0x00 => .instr (.addS (fdF w) (rdF w) (rtF w))
  | 0x01 => .instr (.subS (fdF w) (rdF w) (rtF w))
  | 0x02 => .instr (.mulS (fdF w) (rdF w) (rtF w))
  | 0x03 => .instr (.divS (fdF w) (rdF w) (rtF w))
  | 0x04 => .instr (.sqrtS (fdF w) (rdF w))
  | 0x05 => .instr (.absS (fdF w) (rdF w))
  | 0x06 => .instr (.movS (fdF w) (rdF w))
  | 0x07 => .instr (.negS (fdF w) (rdF w))
  | 0x08 => .instr (.roundLS (fdF w) (rdF w))
  | 0x09 => .instr (.truncLS (fdF w) (rdF w))
  | 0x0A => .instr (.ceilLS (fdF w) (rdF w))
  | 0x0B => .instr (.floorLS (fdF w) (rdF w))
  | 0x0C => .instr (.roundWS (fdF w) (rdF w))
  | 0x0D => .instr (.truncWS (fdF w) (rdF w))
  | 0x0E => .instr (.ceilWS (fdF w) (rdF w))
  | 0x0F => .instr (.floorWS (fdF w) (rdF w))
  | 0x21 => .instr (.cvtDS (fdF w) (rdF w))
  | 0x24 => .instr (.cvtWS (fdF w) (rdF w))
  | 0x25 => .instr (.cvtLS (fdF w) (rdF w))
  | 0x30 => .instr (.cFS (rdF w) (rtF w))
  | 0x31 => .instr (.cUnS (rdF w) (rtF w))
  | 0x32 => .instr (.cEqS (rdF w) (rtF w))
  | 0x33 => .instr (.cUeqS (rdF w) (rtF w))
  | 0x34 => .instr (.cOltS (rdF w) (rtF w))
  | 0x35 => .instr (.cUltS (rdF w) (rtF w))
  | 0x36 => .instr (.cOleS (rdF w) (rtF w))
  | 0x37 => .instr (.cUleS (rdF w) (rtF w))
  | 0x38 => .instr (.cSfS (rdF w) (rtF w))
  | 0x39 => .instr (.cNgleS (rdF w) (rtF w))
  | 0x3A => .instr (.cSeqS (rdF w) (rtF w))
  | 0x3B => .instr (.cNglS (rdF w) (rtF w))
  | 0x3C => .instr (.cLtS (rdF w) (rtF w))
  | 0x3D => .instr (.cNgeS (rdF w) (rtF w))
  | 0x3E => .instr (.cLeS (rdF w) (rtF w))
  | 0x3F => .instr (.cNgtS (rdF w) (rtF w))
  | _ => .reserved .cop1

/-- COP1 format D, by `funct` (R190). -/
def decodeFmtD (w : Word) : Decoded :=
  match (functF w).toNat with
  | 0x00 => .instr (.addD (fdF w) (rdF w) (rtF w))
  | 0x01 => .instr (.subD (fdF w) (rdF w) (rtF w))
  | 0x02 => .instr (.mulD (fdF w) (rdF w) (rtF w))
  | 0x03 => .instr (.divD (fdF w) (rdF w) (rtF w))
  | 0x04 => .instr (.sqrtD (fdF w) (rdF w))
  | 0x05 => .instr (.absD (fdF w) (rdF w))
  | 0x06 => .instr (.movD (fdF w) (rdF w))
  | 0x07 => .instr (.negD (fdF w) (rdF w))
  | 0x08 => .instr (.roundLD (fdF w) (rdF w))
  | 0x09 => .instr (.truncLD (fdF w) (rdF w))
  | 0x0A => .instr (.ceilLD (fdF w) (rdF w))
  | 0x0B => .instr (.floorLD (fdF w) (rdF w))
  | 0x0C => .instr (.roundWD (fdF w) (rdF w))
  | 0x0D => .instr (.truncWD (fdF w) (rdF w))
  | 0x0E => .instr (.ceilWD (fdF w) (rdF w))
  | 0x0F => .instr (.floorWD (fdF w) (rdF w))
  | 0x20 => .instr (.cvtSD (fdF w) (rdF w))
  | 0x24 => .instr (.cvtWD (fdF w) (rdF w))
  | 0x25 => .instr (.cvtLD (fdF w) (rdF w))
  | 0x30 => .instr (.cFD (rdF w) (rtF w))
  | 0x31 => .instr (.cUnD (rdF w) (rtF w))
  | 0x32 => .instr (.cEqD (rdF w) (rtF w))
  | 0x33 => .instr (.cUeqD (rdF w) (rtF w))
  | 0x34 => .instr (.cOltD (rdF w) (rtF w))
  | 0x35 => .instr (.cUltD (rdF w) (rtF w))
  | 0x36 => .instr (.cOleD (rdF w) (rtF w))
  | 0x37 => .instr (.cUleD (rdF w) (rtF w))
  | 0x38 => .instr (.cSfD (rdF w) (rtF w))
  | 0x39 => .instr (.cNgleD (rdF w) (rtF w))
  | 0x3A => .instr (.cSeqD (rdF w) (rtF w))
  | 0x3B => .instr (.cNglD (rdF w) (rtF w))
  | 0x3C => .instr (.cLtD (rdF w) (rtF w))
  | 0x3D => .instr (.cNgeD (rdF w) (rtF w))
  | 0x3E => .instr (.cLeD (rdF w) (rtF w))
  | 0x3F => .instr (.cNgtD (rdF w) (rtF w))
  | _ => .reserved .cop1

/-- COP1 format W, by `funct` (R190). -/
def decodeFmtW (w : Word) : Decoded :=
  match (functF w).toNat with
  | 0x20 => .instr (.cvtSW (fdF w) (rdF w))
  | 0x21 => .instr (.cvtDW (fdF w) (rdF w))
  | _ => .reserved .cop1

/-- COP1 format L, by `funct` (R190). -/
def decodeFmtL (w : Word) : Decoded :=
  match (functF w).toNat with
  | 0x20 => .instr (.cvtSL (fdF w) (rdF w))
  | 0x21 => .instr (.cvtDL (fdF w) (rdF w))
  | _ => .reserved .cop1

/-- COP1 map, `opcode = 0x11`, by bits 25:21 (R189). -/
def decodeCop1 (w : Word) : Decoded :=
  match (subF w).toNat with
  | 0x00 => .instr (.mfc1 (rtF w) (rdF w))
  | 0x01 => .instr (.dmfc1 (rtF w) (rdF w))
  | 0x02 => .instr (.cfc1 (rtF w) (rdF w))
  | 0x04 => .instr (.mtc1 (rtF w) (rdF w))
  | 0x05 => .instr (.dmtc1 (rtF w) (rdF w))
  | 0x06 => .instr (.ctc1 (rtF w) (rdF w))
  | 0x08 => decodeBc1 w
  | 0x10 => decodeFmtS w
  | 0x11 => decodeFmtD w
  | 0x14 => decodeFmtW w
  | 0x15 => decodeFmtL w
  | _ => .reserved .cop1

/-- The instruction of a word, or the kind of reserved word it is: the primary opcode map (R184, R185). -/
def decode (w : Word) : Decoded :=
  match (opcodeF w).toNat with
  | 0x00 => decodeSpecial w
  | 0x01 => decodeRegimm w
  | 0x02 => .instr (.j (targetF w))
  | 0x03 => .instr (.jal (targetF w))
  | 0x04 => .instr (.beq (rsF w) (rtF w) (immF w))
  | 0x05 => .instr (.bne (rsF w) (rtF w) (immF w))
  | 0x06 => .instr (.blez (rsF w) (immF w))
  | 0x07 => .instr (.bgtz (rsF w) (immF w))
  | 0x08 => .instr (.addi (rtF w) (rsF w) (immF w))
  | 0x09 => .instr (.addiu (rtF w) (rsF w) (immF w))
  | 0x0A => .instr (.slti (rtF w) (rsF w) (immF w))
  | 0x0B => .instr (.sltiu (rtF w) (rsF w) (immF w))
  | 0x0C => .instr (.andi (rtF w) (rsF w) (immF w))
  | 0x0D => .instr (.ori (rtF w) (rsF w) (immF w))
  | 0x0E => .instr (.xori (rtF w) (rsF w) (immF w))
  | 0x0F => .instr (.lui (rtF w) (immF w))
  | 0x10 => decodeCop0 w
  | 0x11 => decodeCop1 w
  | 0x12 => .instr (.cop2 (cofunF w))
  | 0x14 => .instr (.beql (rsF w) (rtF w) (immF w))
  | 0x15 => .instr (.bnel (rsF w) (rtF w) (immF w))
  | 0x16 => .instr (.blezl (rsF w) (immF w))
  | 0x17 => .instr (.bgtzl (rsF w) (immF w))
  | 0x18 => .instr (.daddi (rtF w) (rsF w) (immF w))
  | 0x19 => .instr (.daddiu (rtF w) (rsF w) (immF w))
  | 0x1A => .instr (.ldl (rtF w) (rsF w) (immF w))
  | 0x1B => .instr (.ldr (rtF w) (rsF w) (immF w))
  | 0x20 => .instr (.lb (rtF w) (rsF w) (immF w))
  | 0x21 => .instr (.lh (rtF w) (rsF w) (immF w))
  | 0x22 => .instr (.lwl (rtF w) (rsF w) (immF w))
  | 0x23 => .instr (.lw (rtF w) (rsF w) (immF w))
  | 0x24 => .instr (.lbu (rtF w) (rsF w) (immF w))
  | 0x25 => .instr (.lhu (rtF w) (rsF w) (immF w))
  | 0x26 => .instr (.lwr (rtF w) (rsF w) (immF w))
  | 0x27 => .instr (.lwu (rtF w) (rsF w) (immF w))
  | 0x28 => .instr (.sb (rtF w) (rsF w) (immF w))
  | 0x29 => .instr (.sh (rtF w) (rsF w) (immF w))
  | 0x2A => .instr (.swl (rtF w) (rsF w) (immF w))
  | 0x2B => .instr (.sw (rtF w) (rsF w) (immF w))
  | 0x2C => .instr (.sdl (rtF w) (rsF w) (immF w))
  | 0x2D => .instr (.sdr (rtF w) (rsF w) (immF w))
  | 0x2E => .instr (.swr (rtF w) (rsF w) (immF w))
  | 0x2F => .instr (.cache (opF w) (rsF w) (immF w))
  | 0x30 => .instr (.ll (rtF w) (rsF w) (immF w))
  | 0x31 => .instr (.lwc1 (rtF w) (rsF w) (immF w))
  | 0x32 => .instr (.lwc2 (rtF w) (rsF w) (immF w))
  | 0x34 => .instr (.lld (rtF w) (rsF w) (immF w))
  | 0x35 => .instr (.ldc1 (rtF w) (rsF w) (immF w))
  | 0x36 => .instr (.ldc2 (rtF w) (rsF w) (immF w))
  | 0x37 => .instr (.ld (rtF w) (rsF w) (immF w))
  | 0x38 => .instr (.sc (rtF w) (rsF w) (immF w))
  | 0x39 => .instr (.swc1 (rtF w) (rsF w) (immF w))
  | 0x3A => .instr (.swc2 (rtF w) (rsF w) (immF w))
  | 0x3C => .instr (.scd (rtF w) (rsF w) (immF w))
  | 0x3D => .instr (.sdc1 (rtF w) (rsF w) (immF w))
  | 0x3E => .instr (.sdc2 (rtF w) (rsF w) (immF w))
  | 0x3F => .instr (.sd (rtF w) (rsF w) (immF w))
  | _ => .reserved .plain

/-! ## Encoding -/

/-- A register field. -/
def regBits (r : Fin 32) : BitVec 5 := BitVec.ofNat 5 r.val

/-- R-type (and FR-type) word: six fields of 6, 5, 5, 5, 5 and 6 bits (R181). -/
def packR (op : BitVec 6) (a b c d : BitVec 5) (fn : BitVec 6) : Word := op ++ a ++ b ++ c ++ d ++ fn

/-- I-type word (R181). -/
def packI (op : BitVec 6) (a b : BitVec 5) (imm : BitVec 16) : Word := op ++ a ++ b ++ imm

/-- J-type word, and every other word that is an opcode and 26 bits (R181). -/
def packJ (op : BitVec 6) (target : BitVec 26) : Word := op ++ target

/-- R-code word: opcode, 20-bit code, funct (R182). -/
def packCode (code : BitVec 20) (fn : BitVec 6) : Word := 0#6 ++ code ++ fn

/-- R-trap word: opcode, rs, rt, 10-bit code, funct (R182). -/
def packTrap (a b : BitVec 5) (code : BitVec 10) (fn : BitVec 6) : Word := 0#6 ++ a ++ b ++ code ++ fn

/-- The word of a well-formed instruction. -/
def encode (i : Instr) : Word :=
  match i with
  | .add rd rs rt => packR 0#6 (regBits rs) (regBits rt) (regBits rd) 0#5 0x20#6
  | .addu rd rs rt => packR 0#6 (regBits rs) (regBits rt) (regBits rd) 0#5 0x21#6
  | .sub rd rs rt => packR 0#6 (regBits rs) (regBits rt) (regBits rd) 0#5 0x22#6
  | .subu rd rs rt => packR 0#6 (regBits rs) (regBits rt) (regBits rd) 0#5 0x23#6
  | .dadd rd rs rt => packR 0#6 (regBits rs) (regBits rt) (regBits rd) 0#5 0x2C#6
  | .daddu rd rs rt => packR 0#6 (regBits rs) (regBits rt) (regBits rd) 0#5 0x2D#6
  | .dsub rd rs rt => packR 0#6 (regBits rs) (regBits rt) (regBits rd) 0#5 0x2E#6
  | .dsubu rd rs rt => packR 0#6 (regBits rs) (regBits rt) (regBits rd) 0#5 0x2F#6
  | .and rd rs rt => packR 0#6 (regBits rs) (regBits rt) (regBits rd) 0#5 0x24#6
  | .or rd rs rt => packR 0#6 (regBits rs) (regBits rt) (regBits rd) 0#5 0x25#6
  | .xor rd rs rt => packR 0#6 (regBits rs) (regBits rt) (regBits rd) 0#5 0x26#6
  | .nor rd rs rt => packR 0#6 (regBits rs) (regBits rt) (regBits rd) 0#5 0x27#6
  | .slt rd rs rt => packR 0#6 (regBits rs) (regBits rt) (regBits rd) 0#5 0x2A#6
  | .sltu rd rs rt => packR 0#6 (regBits rs) (regBits rt) (regBits rd) 0#5 0x2B#6
  | .addi rt rs imm => packI 0x08#6 (regBits rs) (regBits rt) imm
  | .addiu rt rs imm => packI 0x09#6 (regBits rs) (regBits rt) imm
  | .daddi rt rs imm => packI 0x18#6 (regBits rs) (regBits rt) imm
  | .daddiu rt rs imm => packI 0x19#6 (regBits rs) (regBits rt) imm
  | .slti rt rs imm => packI 0x0A#6 (regBits rs) (regBits rt) imm
  | .sltiu rt rs imm => packI 0x0B#6 (regBits rs) (regBits rt) imm
  | .andi rt rs imm => packI 0x0C#6 (regBits rs) (regBits rt) imm
  | .ori rt rs imm => packI 0x0D#6 (regBits rs) (regBits rt) imm
  | .xori rt rs imm => packI 0x0E#6 (regBits rs) (regBits rt) imm
  | .lui rt imm => packI 0x0F#6 0#5 (regBits rt) imm
  | .sll rd rt sa => packR 0#6 0#5 (regBits rt) (regBits rd) (BitVec.ofNat 5 sa) 0x00#6
  | .srl rd rt sa => packR 0#6 0#5 (regBits rt) (regBits rd) (BitVec.ofNat 5 sa) 0x02#6
  | .sra rd rt sa => packR 0#6 0#5 (regBits rt) (regBits rd) (BitVec.ofNat 5 sa) 0x03#6
  | .sllv rd rt rs => packR 0#6 (regBits rs) (regBits rt) (regBits rd) 0#5 0x04#6
  | .srlv rd rt rs => packR 0#6 (regBits rs) (regBits rt) (regBits rd) 0#5 0x06#6
  | .srav rd rt rs => packR 0#6 (regBits rs) (regBits rt) (regBits rd) 0#5 0x07#6
  | .dsll rd rt sa => packR 0#6 0#5 (regBits rt) (regBits rd) (BitVec.ofNat 5 sa) 0x38#6
  | .dsrl rd rt sa => packR 0#6 0#5 (regBits rt) (regBits rd) (BitVec.ofNat 5 sa) 0x3A#6
  | .dsra rd rt sa => packR 0#6 0#5 (regBits rt) (regBits rd) (BitVec.ofNat 5 sa) 0x3B#6
  | .dsll32 rd rt sa => packR 0#6 0#5 (regBits rt) (regBits rd) (BitVec.ofNat 5 sa) 0x3C#6
  | .dsrl32 rd rt sa => packR 0#6 0#5 (regBits rt) (regBits rd) (BitVec.ofNat 5 sa) 0x3E#6
  | .dsra32 rd rt sa => packR 0#6 0#5 (regBits rt) (regBits rd) (BitVec.ofNat 5 sa) 0x3F#6
  | .dsllv rd rt rs => packR 0#6 (regBits rs) (regBits rt) (regBits rd) 0#5 0x14#6
  | .dsrlv rd rt rs => packR 0#6 (regBits rs) (regBits rt) (regBits rd) 0#5 0x16#6
  | .dsrav rd rt rs => packR 0#6 (regBits rs) (regBits rt) (regBits rd) 0#5 0x17#6
  | .mult rs rt => packR 0#6 (regBits rs) (regBits rt) 0#5 0#5 0x18#6
  | .multu rs rt => packR 0#6 (regBits rs) (regBits rt) 0#5 0#5 0x19#6
  | .div rs rt => packR 0#6 (regBits rs) (regBits rt) 0#5 0#5 0x1A#6
  | .divu rs rt => packR 0#6 (regBits rs) (regBits rt) 0#5 0#5 0x1B#6
  | .dmult rs rt => packR 0#6 (regBits rs) (regBits rt) 0#5 0#5 0x1C#6
  | .dmultu rs rt => packR 0#6 (regBits rs) (regBits rt) 0#5 0#5 0x1D#6
  | .ddiv rs rt => packR 0#6 (regBits rs) (regBits rt) 0#5 0#5 0x1E#6
  | .ddivu rs rt => packR 0#6 (regBits rs) (regBits rt) 0#5 0#5 0x1F#6
  | .mfhi rd => packR 0#6 0#5 0#5 (regBits rd) 0#5 0x10#6
  | .mthi rs => packR 0#6 (regBits rs) 0#5 0#5 0#5 0x11#6
  | .mflo rd => packR 0#6 0#5 0#5 (regBits rd) 0#5 0x12#6
  | .mtlo rs => packR 0#6 (regBits rs) 0#5 0#5 0#5 0x13#6
  | .j target => packJ 0x02#6 target
  | .jal target => packJ 0x03#6 target
  | .jr rs => packR 0#6 (regBits rs) 0#5 0#5 0#5 0x08#6
  | .jalr rd rs => packR 0#6 (regBits rs) 0#5 (regBits rd) 0#5 0x09#6
  | .beq rs rt offset => packI 0x04#6 (regBits rs) (regBits rt) offset
  | .bne rs rt offset => packI 0x05#6 (regBits rs) (regBits rt) offset
  | .blez rs offset => packI 0x06#6 (regBits rs) 0#5 offset
  | .bgtz rs offset => packI 0x07#6 (regBits rs) 0#5 offset
  | .beql rs rt offset => packI 0x14#6 (regBits rs) (regBits rt) offset
  | .bnel rs rt offset => packI 0x15#6 (regBits rs) (regBits rt) offset
  | .blezl rs offset => packI 0x16#6 (regBits rs) 0#5 offset
  | .bgtzl rs offset => packI 0x17#6 (regBits rs) 0#5 offset
  | .bltz rs offset => packI 0x01#6 (regBits rs) 0x00#5 offset
  | .bgez rs offset => packI 0x01#6 (regBits rs) 0x01#5 offset
  | .bltzl rs offset => packI 0x01#6 (regBits rs) 0x02#5 offset
  | .bgezl rs offset => packI 0x01#6 (regBits rs) 0x03#5 offset
  | .bltzal rs offset => packI 0x01#6 (regBits rs) 0x10#5 offset
  | .bgezal rs offset => packI 0x01#6 (regBits rs) 0x11#5 offset
  | .bltzall rs offset => packI 0x01#6 (regBits rs) 0x12#5 offset
  | .bgezall rs offset => packI 0x01#6 (regBits rs) 0x13#5 offset
  | .lb rt base offset => packI 0x20#6 (regBits base) (regBits rt) offset
  | .lbu rt base offset => packI 0x24#6 (regBits base) (regBits rt) offset
  | .lh rt base offset => packI 0x21#6 (regBits base) (regBits rt) offset
  | .lhu rt base offset => packI 0x25#6 (regBits base) (regBits rt) offset
  | .lw rt base offset => packI 0x23#6 (regBits base) (regBits rt) offset
  | .lwu rt base offset => packI 0x27#6 (regBits base) (regBits rt) offset
  | .ld rt base offset => packI 0x37#6 (regBits base) (regBits rt) offset
  | .sb rt base offset => packI 0x28#6 (regBits base) (regBits rt) offset
  | .sh rt base offset => packI 0x29#6 (regBits base) (regBits rt) offset
  | .sw rt base offset => packI 0x2B#6 (regBits base) (regBits rt) offset
  | .sd rt base offset => packI 0x3F#6 (regBits base) (regBits rt) offset
  | .lwl rt base offset => packI 0x22#6 (regBits base) (regBits rt) offset
  | .lwr rt base offset => packI 0x26#6 (regBits base) (regBits rt) offset
  | .swl rt base offset => packI 0x2A#6 (regBits base) (regBits rt) offset
  | .swr rt base offset => packI 0x2E#6 (regBits base) (regBits rt) offset
  | .ldl rt base offset => packI 0x1A#6 (regBits base) (regBits rt) offset
  | .ldr rt base offset => packI 0x1B#6 (regBits base) (regBits rt) offset
  | .sdl rt base offset => packI 0x2C#6 (regBits base) (regBits rt) offset
  | .sdr rt base offset => packI 0x2D#6 (regBits base) (regBits rt) offset
  | .ll rt base offset => packI 0x30#6 (regBits base) (regBits rt) offset
  | .lld rt base offset => packI 0x34#6 (regBits base) (regBits rt) offset
  | .sc rt base offset => packI 0x38#6 (regBits base) (regBits rt) offset
  | .scd rt base offset => packI 0x3C#6 (regBits base) (regBits rt) offset
  | .tge rs rt code => packTrap (regBits rs) (regBits rt) (BitVec.ofNat 10 code) 0x30#6
  | .tgeu rs rt code => packTrap (regBits rs) (regBits rt) (BitVec.ofNat 10 code) 0x31#6
  | .tlt rs rt code => packTrap (regBits rs) (regBits rt) (BitVec.ofNat 10 code) 0x32#6
  | .tltu rs rt code => packTrap (regBits rs) (regBits rt) (BitVec.ofNat 10 code) 0x33#6
  | .teq rs rt code => packTrap (regBits rs) (regBits rt) (BitVec.ofNat 10 code) 0x34#6
  | .tne rs rt code => packTrap (regBits rs) (regBits rt) (BitVec.ofNat 10 code) 0x36#6
  | .tgei rs imm => packI 0x01#6 (regBits rs) 0x08#5 imm
  | .tgeiu rs imm => packI 0x01#6 (regBits rs) 0x09#5 imm
  | .tlti rs imm => packI 0x01#6 (regBits rs) 0x0A#5 imm
  | .tltiu rs imm => packI 0x01#6 (regBits rs) 0x0B#5 imm
  | .teqi rs imm => packI 0x01#6 (regBits rs) 0x0C#5 imm
  | .tnei rs imm => packI 0x01#6 (regBits rs) 0x0E#5 imm
  | .syscall code => packCode (BitVec.ofNat 20 code) 0x0C#6
  | .breakI code => packCode (BitVec.ofNat 20 code) 0x0D#6
  | .sync => packR 0#6 0#5 0#5 0#5 0#5 0x0F#6
  | .cache op base offset => packI 0x2F#6 (regBits base) (BitVec.ofNat 5 op) offset
  | .mfc0 rt rd => packR 0x10#6 0x00#5 (regBits rt) (regBits rd) 0#5 0#6
  | .dmfc0 rt rd => packR 0x10#6 0x01#5 (regBits rt) (regBits rd) 0#5 0#6
  | .mtc0 rt rd => packR 0x10#6 0x04#5 (regBits rt) (regBits rd) 0#5 0#6
  | .dmtc0 rt rd => packR 0x10#6 0x05#5 (regBits rt) (regBits rd) 0#5 0#6
  | .tlbr => packR 0x10#6 0x10#5 0#5 0#5 0#5 0x01#6
  | .tlbwi => packR 0x10#6 0x10#5 0#5 0#5 0#5 0x02#6
  | .tlbwr => packR 0x10#6 0x10#5 0#5 0#5 0#5 0x06#6
  | .tlbp => packR 0x10#6 0x10#5 0#5 0#5 0#5 0x08#6
  | .eret => packR 0x10#6 0x10#5 0#5 0#5 0#5 0x18#6
  | .cop2 cofun => packJ 0x12#6 (BitVec.ofNat 26 cofun)
  | .lwc2 rt base offset => packI 0x32#6 (regBits base) (regBits rt) offset
  | .ldc2 rt base offset => packI 0x36#6 (regBits base) (regBits rt) offset
  | .swc2 rt base offset => packI 0x3A#6 (regBits base) (regBits rt) offset
  | .sdc2 rt base offset => packI 0x3E#6 (regBits base) (regBits rt) offset
  | .mfc1 rt fs => packR 0x11#6 0x00#5 (regBits rt) (regBits fs) 0#5 0#6
  | .dmfc1 rt fs => packR 0x11#6 0x01#5 (regBits rt) (regBits fs) 0#5 0#6
  | .cfc1 rt fs => packR 0x11#6 0x02#5 (regBits rt) (regBits fs) 0#5 0#6
  | .mtc1 rt fs => packR 0x11#6 0x04#5 (regBits rt) (regBits fs) 0#5 0#6
  | .dmtc1 rt fs => packR 0x11#6 0x05#5 (regBits rt) (regBits fs) 0#5 0#6
  | .ctc1 rt fs => packR 0x11#6 0x06#5 (regBits rt) (regBits fs) 0#5 0#6
  | .bc1f offset => packI 0x11#6 0x08#5 0x00#5 offset
  | .bc1t offset => packI 0x11#6 0x08#5 0x01#5 offset
  | .bc1fl offset => packI 0x11#6 0x08#5 0x02#5 offset
  | .bc1tl offset => packI 0x11#6 0x08#5 0x03#5 offset
  | .lwc1 ft base offset => packI 0x31#6 (regBits base) (regBits ft) offset
  | .ldc1 ft base offset => packI 0x35#6 (regBits base) (regBits ft) offset
  | .swc1 ft base offset => packI 0x39#6 (regBits base) (regBits ft) offset
  | .sdc1 ft base offset => packI 0x3D#6 (regBits base) (regBits ft) offset
  | .addS fd fs ft => packR 0x11#6 0x10#5 (regBits ft) (regBits fs) (regBits fd) 0x00#6
  | .addD fd fs ft => packR 0x11#6 0x11#5 (regBits ft) (regBits fs) (regBits fd) 0x00#6
  | .subS fd fs ft => packR 0x11#6 0x10#5 (regBits ft) (regBits fs) (regBits fd) 0x01#6
  | .subD fd fs ft => packR 0x11#6 0x11#5 (regBits ft) (regBits fs) (regBits fd) 0x01#6
  | .mulS fd fs ft => packR 0x11#6 0x10#5 (regBits ft) (regBits fs) (regBits fd) 0x02#6
  | .mulD fd fs ft => packR 0x11#6 0x11#5 (regBits ft) (regBits fs) (regBits fd) 0x02#6
  | .divS fd fs ft => packR 0x11#6 0x10#5 (regBits ft) (regBits fs) (regBits fd) 0x03#6
  | .divD fd fs ft => packR 0x11#6 0x11#5 (regBits ft) (regBits fs) (regBits fd) 0x03#6
  | .sqrtS fd fs => packR 0x11#6 0x10#5 0#5 (regBits fs) (regBits fd) 0x04#6
  | .sqrtD fd fs => packR 0x11#6 0x11#5 0#5 (regBits fs) (regBits fd) 0x04#6
  | .absS fd fs => packR 0x11#6 0x10#5 0#5 (regBits fs) (regBits fd) 0x05#6
  | .absD fd fs => packR 0x11#6 0x11#5 0#5 (regBits fs) (regBits fd) 0x05#6
  | .movS fd fs => packR 0x11#6 0x10#5 0#5 (regBits fs) (regBits fd) 0x06#6
  | .movD fd fs => packR 0x11#6 0x11#5 0#5 (regBits fs) (regBits fd) 0x06#6
  | .negS fd fs => packR 0x11#6 0x10#5 0#5 (regBits fs) (regBits fd) 0x07#6
  | .negD fd fs => packR 0x11#6 0x11#5 0#5 (regBits fs) (regBits fd) 0x07#6
  | .roundLS fd fs => packR 0x11#6 0x10#5 0#5 (regBits fs) (regBits fd) 0x08#6
  | .roundLD fd fs => packR 0x11#6 0x11#5 0#5 (regBits fs) (regBits fd) 0x08#6
  | .truncLS fd fs => packR 0x11#6 0x10#5 0#5 (regBits fs) (regBits fd) 0x09#6
  | .truncLD fd fs => packR 0x11#6 0x11#5 0#5 (regBits fs) (regBits fd) 0x09#6
  | .ceilLS fd fs => packR 0x11#6 0x10#5 0#5 (regBits fs) (regBits fd) 0x0A#6
  | .ceilLD fd fs => packR 0x11#6 0x11#5 0#5 (regBits fs) (regBits fd) 0x0A#6
  | .floorLS fd fs => packR 0x11#6 0x10#5 0#5 (regBits fs) (regBits fd) 0x0B#6
  | .floorLD fd fs => packR 0x11#6 0x11#5 0#5 (regBits fs) (regBits fd) 0x0B#6
  | .roundWS fd fs => packR 0x11#6 0x10#5 0#5 (regBits fs) (regBits fd) 0x0C#6
  | .roundWD fd fs => packR 0x11#6 0x11#5 0#5 (regBits fs) (regBits fd) 0x0C#6
  | .truncWS fd fs => packR 0x11#6 0x10#5 0#5 (regBits fs) (regBits fd) 0x0D#6
  | .truncWD fd fs => packR 0x11#6 0x11#5 0#5 (regBits fs) (regBits fd) 0x0D#6
  | .ceilWS fd fs => packR 0x11#6 0x10#5 0#5 (regBits fs) (regBits fd) 0x0E#6
  | .ceilWD fd fs => packR 0x11#6 0x11#5 0#5 (regBits fs) (regBits fd) 0x0E#6
  | .floorWS fd fs => packR 0x11#6 0x10#5 0#5 (regBits fs) (regBits fd) 0x0F#6
  | .floorWD fd fs => packR 0x11#6 0x11#5 0#5 (regBits fs) (regBits fd) 0x0F#6
  | .cvtSD fd fs => packR 0x11#6 0x11#5 0#5 (regBits fs) (regBits fd) 0x20#6
  | .cvtSW fd fs => packR 0x11#6 0x14#5 0#5 (regBits fs) (regBits fd) 0x20#6
  | .cvtSL fd fs => packR 0x11#6 0x15#5 0#5 (regBits fs) (regBits fd) 0x20#6
  | .cvtDS fd fs => packR 0x11#6 0x10#5 0#5 (regBits fs) (regBits fd) 0x21#6
  | .cvtDW fd fs => packR 0x11#6 0x14#5 0#5 (regBits fs) (regBits fd) 0x21#6
  | .cvtDL fd fs => packR 0x11#6 0x15#5 0#5 (regBits fs) (regBits fd) 0x21#6
  | .cvtWS fd fs => packR 0x11#6 0x10#5 0#5 (regBits fs) (regBits fd) 0x24#6
  | .cvtWD fd fs => packR 0x11#6 0x11#5 0#5 (regBits fs) (regBits fd) 0x24#6
  | .cvtLS fd fs => packR 0x11#6 0x10#5 0#5 (regBits fs) (regBits fd) 0x25#6
  | .cvtLD fd fs => packR 0x11#6 0x11#5 0#5 (regBits fs) (regBits fd) 0x25#6
  | .cFS fs ft => packR 0x11#6 0x10#5 (regBits ft) (regBits fs) 0#5 0x30#6
  | .cFD fs ft => packR 0x11#6 0x11#5 (regBits ft) (regBits fs) 0#5 0x30#6
  | .cUnS fs ft => packR 0x11#6 0x10#5 (regBits ft) (regBits fs) 0#5 0x31#6
  | .cUnD fs ft => packR 0x11#6 0x11#5 (regBits ft) (regBits fs) 0#5 0x31#6
  | .cEqS fs ft => packR 0x11#6 0x10#5 (regBits ft) (regBits fs) 0#5 0x32#6
  | .cEqD fs ft => packR 0x11#6 0x11#5 (regBits ft) (regBits fs) 0#5 0x32#6
  | .cUeqS fs ft => packR 0x11#6 0x10#5 (regBits ft) (regBits fs) 0#5 0x33#6
  | .cUeqD fs ft => packR 0x11#6 0x11#5 (regBits ft) (regBits fs) 0#5 0x33#6
  | .cOltS fs ft => packR 0x11#6 0x10#5 (regBits ft) (regBits fs) 0#5 0x34#6
  | .cOltD fs ft => packR 0x11#6 0x11#5 (regBits ft) (regBits fs) 0#5 0x34#6
  | .cUltS fs ft => packR 0x11#6 0x10#5 (regBits ft) (regBits fs) 0#5 0x35#6
  | .cUltD fs ft => packR 0x11#6 0x11#5 (regBits ft) (regBits fs) 0#5 0x35#6
  | .cOleS fs ft => packR 0x11#6 0x10#5 (regBits ft) (regBits fs) 0#5 0x36#6
  | .cOleD fs ft => packR 0x11#6 0x11#5 (regBits ft) (regBits fs) 0#5 0x36#6
  | .cUleS fs ft => packR 0x11#6 0x10#5 (regBits ft) (regBits fs) 0#5 0x37#6
  | .cUleD fs ft => packR 0x11#6 0x11#5 (regBits ft) (regBits fs) 0#5 0x37#6
  | .cSfS fs ft => packR 0x11#6 0x10#5 (regBits ft) (regBits fs) 0#5 0x38#6
  | .cSfD fs ft => packR 0x11#6 0x11#5 (regBits ft) (regBits fs) 0#5 0x38#6
  | .cNgleS fs ft => packR 0x11#6 0x10#5 (regBits ft) (regBits fs) 0#5 0x39#6
  | .cNgleD fs ft => packR 0x11#6 0x11#5 (regBits ft) (regBits fs) 0#5 0x39#6
  | .cSeqS fs ft => packR 0x11#6 0x10#5 (regBits ft) (regBits fs) 0#5 0x3A#6
  | .cSeqD fs ft => packR 0x11#6 0x11#5 (regBits ft) (regBits fs) 0#5 0x3A#6
  | .cNglS fs ft => packR 0x11#6 0x10#5 (regBits ft) (regBits fs) 0#5 0x3B#6
  | .cNglD fs ft => packR 0x11#6 0x11#5 (regBits ft) (regBits fs) 0#5 0x3B#6
  | .cLtS fs ft => packR 0x11#6 0x10#5 (regBits ft) (regBits fs) 0#5 0x3C#6
  | .cLtD fs ft => packR 0x11#6 0x11#5 (regBits ft) (regBits fs) 0#5 0x3C#6
  | .cNgeS fs ft => packR 0x11#6 0x10#5 (regBits ft) (regBits fs) 0#5 0x3D#6
  | .cNgeD fs ft => packR 0x11#6 0x11#5 (regBits ft) (regBits fs) 0#5 0x3D#6
  | .cLeS fs ft => packR 0x11#6 0x10#5 (regBits ft) (regBits fs) 0#5 0x3E#6
  | .cLeD fs ft => packR 0x11#6 0x11#5 (regBits ft) (regBits fs) 0#5 0x3E#6
  | .cNgtS fs ft => packR 0x11#6 0x10#5 (regBits ft) (regBits fs) 0#5 0x3F#6
  | .cNgtD fs ft => packR 0x11#6 0x11#5 (regBits ft) (regBits fs) 0#5 0x3F#6

/-! ## The opcode table

The mask and the match of every row of opcode_table.json, written from that file and not from the maps above,
so that the two can be compared. -/

/-- The row of an instruction: `(mask, match)`. A word is an instance of the row when `word & mask = match`. -/
def tableRow (i : Instr) : Word × Word :=
  match i with
  | .add _ _ _ => (0xFC00003F#32, 0x00000020#32)
  | .addu _ _ _ => (0xFC00003F#32, 0x00000021#32)
  | .sub _ _ _ => (0xFC00003F#32, 0x00000022#32)
  | .subu _ _ _ => (0xFC00003F#32, 0x00000023#32)
  | .dadd _ _ _ => (0xFC00003F#32, 0x0000002C#32)
  | .daddu _ _ _ => (0xFC00003F#32, 0x0000002D#32)
  | .dsub _ _ _ => (0xFC00003F#32, 0x0000002E#32)
  | .dsubu _ _ _ => (0xFC00003F#32, 0x0000002F#32)
  | .and _ _ _ => (0xFC00003F#32, 0x00000024#32)
  | .or _ _ _ => (0xFC00003F#32, 0x00000025#32)
  | .xor _ _ _ => (0xFC00003F#32, 0x00000026#32)
  | .nor _ _ _ => (0xFC00003F#32, 0x00000027#32)
  | .slt _ _ _ => (0xFC00003F#32, 0x0000002A#32)
  | .sltu _ _ _ => (0xFC00003F#32, 0x0000002B#32)
  | .addi _ _ _ => (0xFC000000#32, 0x20000000#32)
  | .addiu _ _ _ => (0xFC000000#32, 0x24000000#32)
  | .daddi _ _ _ => (0xFC000000#32, 0x60000000#32)
  | .daddiu _ _ _ => (0xFC000000#32, 0x64000000#32)
  | .slti _ _ _ => (0xFC000000#32, 0x28000000#32)
  | .sltiu _ _ _ => (0xFC000000#32, 0x2C000000#32)
  | .andi _ _ _ => (0xFC000000#32, 0x30000000#32)
  | .ori _ _ _ => (0xFC000000#32, 0x34000000#32)
  | .xori _ _ _ => (0xFC000000#32, 0x38000000#32)
  | .lui _ _ => (0xFC000000#32, 0x3C000000#32)
  | .sll _ _ _ => (0xFC00003F#32, 0x00000000#32)
  | .srl _ _ _ => (0xFC00003F#32, 0x00000002#32)
  | .sra _ _ _ => (0xFC00003F#32, 0x00000003#32)
  | .sllv _ _ _ => (0xFC00003F#32, 0x00000004#32)
  | .srlv _ _ _ => (0xFC00003F#32, 0x00000006#32)
  | .srav _ _ _ => (0xFC00003F#32, 0x00000007#32)
  | .dsll _ _ _ => (0xFC00003F#32, 0x00000038#32)
  | .dsrl _ _ _ => (0xFC00003F#32, 0x0000003A#32)
  | .dsra _ _ _ => (0xFC00003F#32, 0x0000003B#32)
  | .dsll32 _ _ _ => (0xFC00003F#32, 0x0000003C#32)
  | .dsrl32 _ _ _ => (0xFC00003F#32, 0x0000003E#32)
  | .dsra32 _ _ _ => (0xFC00003F#32, 0x0000003F#32)
  | .dsllv _ _ _ => (0xFC00003F#32, 0x00000014#32)
  | .dsrlv _ _ _ => (0xFC00003F#32, 0x00000016#32)
  | .dsrav _ _ _ => (0xFC00003F#32, 0x00000017#32)
  | .mult _ _ => (0xFC00003F#32, 0x00000018#32)
  | .multu _ _ => (0xFC00003F#32, 0x00000019#32)
  | .div _ _ => (0xFC00003F#32, 0x0000001A#32)
  | .divu _ _ => (0xFC00003F#32, 0x0000001B#32)
  | .dmult _ _ => (0xFC00003F#32, 0x0000001C#32)
  | .dmultu _ _ => (0xFC00003F#32, 0x0000001D#32)
  | .ddiv _ _ => (0xFC00003F#32, 0x0000001E#32)
  | .ddivu _ _ => (0xFC00003F#32, 0x0000001F#32)
  | .mfhi _ => (0xFC00003F#32, 0x00000010#32)
  | .mthi _ => (0xFC00003F#32, 0x00000011#32)
  | .mflo _ => (0xFC00003F#32, 0x00000012#32)
  | .mtlo _ => (0xFC00003F#32, 0x00000013#32)
  | .j _ => (0xFC000000#32, 0x08000000#32)
  | .jal _ => (0xFC000000#32, 0x0C000000#32)
  | .jr _ => (0xFC00003F#32, 0x00000008#32)
  | .jalr _ _ => (0xFC00003F#32, 0x00000009#32)
  | .beq _ _ _ => (0xFC000000#32, 0x10000000#32)
  | .bne _ _ _ => (0xFC000000#32, 0x14000000#32)
  | .blez _ _ => (0xFC000000#32, 0x18000000#32)
  | .bgtz _ _ => (0xFC000000#32, 0x1C000000#32)
  | .beql _ _ _ => (0xFC000000#32, 0x50000000#32)
  | .bnel _ _ _ => (0xFC000000#32, 0x54000000#32)
  | .blezl _ _ => (0xFC000000#32, 0x58000000#32)
  | .bgtzl _ _ => (0xFC000000#32, 0x5C000000#32)
  | .bltz _ _ => (0xFC1F0000#32, 0x04000000#32)
  | .bgez _ _ => (0xFC1F0000#32, 0x04010000#32)
  | .bltzl _ _ => (0xFC1F0000#32, 0x04020000#32)
  | .bgezl _ _ => (0xFC1F0000#32, 0x04030000#32)
  | .bltzal _ _ => (0xFC1F0000#32, 0x04100000#32)
  | .bgezal _ _ => (0xFC1F0000#32, 0x04110000#32)
  | .bltzall _ _ => (0xFC1F0000#32, 0x04120000#32)
  | .bgezall _ _ => (0xFC1F0000#32, 0x04130000#32)
  | .lb _ _ _ => (0xFC000000#32, 0x80000000#32)
  | .lbu _ _ _ => (0xFC000000#32, 0x90000000#32)
  | .lh _ _ _ => (0xFC000000#32, 0x84000000#32)
  | .lhu _ _ _ => (0xFC000000#32, 0x94000000#32)
  | .lw _ _ _ => (0xFC000000#32, 0x8C000000#32)
  | .lwu _ _ _ => (0xFC000000#32, 0x9C000000#32)
  | .ld _ _ _ => (0xFC000000#32, 0xDC000000#32)
  | .sb _ _ _ => (0xFC000000#32, 0xA0000000#32)
  | .sh _ _ _ => (0xFC000000#32, 0xA4000000#32)
  | .sw _ _ _ => (0xFC000000#32, 0xAC000000#32)
  | .sd _ _ _ => (0xFC000000#32, 0xFC000000#32)
  | .lwl _ _ _ => (0xFC000000#32, 0x88000000#32)
  | .lwr _ _ _ => (0xFC000000#32, 0x98000000#32)
  | .swl _ _ _ => (0xFC000000#32, 0xA8000000#32)
  | .swr _ _ _ => (0xFC000000#32, 0xB8000000#32)
  | .ldl _ _ _ => (0xFC000000#32, 0x68000000#32)
  | .ldr _ _ _ => (0xFC000000#32, 0x6C000000#32)
  | .sdl _ _ _ => (0xFC000000#32, 0xB0000000#32)
  | .sdr _ _ _ => (0xFC000000#32, 0xB4000000#32)
  | .ll _ _ _ => (0xFC000000#32, 0xC0000000#32)
  | .lld _ _ _ => (0xFC000000#32, 0xD0000000#32)
  | .sc _ _ _ => (0xFC000000#32, 0xE0000000#32)
  | .scd _ _ _ => (0xFC000000#32, 0xF0000000#32)
  | .tge _ _ _ => (0xFC00003F#32, 0x00000030#32)
  | .tgeu _ _ _ => (0xFC00003F#32, 0x00000031#32)
  | .tlt _ _ _ => (0xFC00003F#32, 0x00000032#32)
  | .tltu _ _ _ => (0xFC00003F#32, 0x00000033#32)
  | .teq _ _ _ => (0xFC00003F#32, 0x00000034#32)
  | .tne _ _ _ => (0xFC00003F#32, 0x00000036#32)
  | .tgei _ _ => (0xFC1F0000#32, 0x04080000#32)
  | .tgeiu _ _ => (0xFC1F0000#32, 0x04090000#32)
  | .tlti _ _ => (0xFC1F0000#32, 0x040A0000#32)
  | .tltiu _ _ => (0xFC1F0000#32, 0x040B0000#32)
  | .teqi _ _ => (0xFC1F0000#32, 0x040C0000#32)
  | .tnei _ _ => (0xFC1F0000#32, 0x040E0000#32)
  | .syscall _ => (0xFC00003F#32, 0x0000000C#32)
  | .breakI _ => (0xFC00003F#32, 0x0000000D#32)
  | .sync => (0xFC00003F#32, 0x0000000F#32)
  | .cache _ _ _ => (0xFC000000#32, 0xBC000000#32)
  | .mfc0 _ _ => (0xFFE00000#32, 0x40000000#32)
  | .dmfc0 _ _ => (0xFFE00000#32, 0x40200000#32)
  | .mtc0 _ _ => (0xFFE00000#32, 0x40800000#32)
  | .dmtc0 _ _ => (0xFFE00000#32, 0x40A00000#32)
  | .tlbr => (0xFE00003F#32, 0x42000001#32)
  | .tlbwi => (0xFE00003F#32, 0x42000002#32)
  | .tlbwr => (0xFE00003F#32, 0x42000006#32)
  | .tlbp => (0xFE00003F#32, 0x42000008#32)
  | .eret => (0xFFFFFFFF#32, 0x42000018#32)
  | .cop2 _ => (0xFC000000#32, 0x48000000#32)
  | .lwc2 _ _ _ => (0xFC000000#32, 0xC8000000#32)
  | .ldc2 _ _ _ => (0xFC000000#32, 0xD8000000#32)
  | .swc2 _ _ _ => (0xFC000000#32, 0xE8000000#32)
  | .sdc2 _ _ _ => (0xFC000000#32, 0xF8000000#32)
  | .mfc1 _ _ => (0xFFE00000#32, 0x44000000#32)
  | .dmfc1 _ _ => (0xFFE00000#32, 0x44200000#32)
  | .cfc1 _ _ => (0xFFE00000#32, 0x44400000#32)
  | .mtc1 _ _ => (0xFFE00000#32, 0x44800000#32)
  | .dmtc1 _ _ => (0xFFE00000#32, 0x44A00000#32)
  | .ctc1 _ _ => (0xFFE00000#32, 0x44C00000#32)
  | .bc1f _ => (0xFFFF0000#32, 0x45000000#32)
  | .bc1t _ => (0xFFFF0000#32, 0x45010000#32)
  | .bc1fl _ => (0xFFFF0000#32, 0x45020000#32)
  | .bc1tl _ => (0xFFFF0000#32, 0x45030000#32)
  | .lwc1 _ _ _ => (0xFC000000#32, 0xC4000000#32)
  | .ldc1 _ _ _ => (0xFC000000#32, 0xD4000000#32)
  | .swc1 _ _ _ => (0xFC000000#32, 0xE4000000#32)
  | .sdc1 _ _ _ => (0xFC000000#32, 0xF4000000#32)
  | .addS _ _ _ => (0xFFE0003F#32, 0x46000000#32)
  | .addD _ _ _ => (0xFFE0003F#32, 0x46200000#32)
  | .subS _ _ _ => (0xFFE0003F#32, 0x46000001#32)
  | .subD _ _ _ => (0xFFE0003F#32, 0x46200001#32)
  | .mulS _ _ _ => (0xFFE0003F#32, 0x46000002#32)
  | .mulD _ _ _ => (0xFFE0003F#32, 0x46200002#32)
  | .divS _ _ _ => (0xFFE0003F#32, 0x46000003#32)
  | .divD _ _ _ => (0xFFE0003F#32, 0x46200003#32)
  | .sqrtS _ _ => (0xFFE0003F#32, 0x46000004#32)
  | .sqrtD _ _ => (0xFFE0003F#32, 0x46200004#32)
  | .absS _ _ => (0xFFE0003F#32, 0x46000005#32)
  | .absD _ _ => (0xFFE0003F#32, 0x46200005#32)
  | .movS _ _ => (0xFFE0003F#32, 0x46000006#32)
  | .movD _ _ => (0xFFE0003F#32, 0x46200006#32)
  | .negS _ _ => (0xFFE0003F#32, 0x46000007#32)
  | .negD _ _ => (0xFFE0003F#32, 0x46200007#32)
  | .roundLS _ _ => (0xFFE0003F#32, 0x46000008#32)
  | .roundLD _ _ => (0xFFE0003F#32, 0x46200008#32)
  | .truncLS _ _ => (0xFFE0003F#32, 0x46000009#32)
  | .truncLD _ _ => (0xFFE0003F#32, 0x46200009#32)
  | .ceilLS _ _ => (0xFFE0003F#32, 0x4600000A#32)
  | .ceilLD _ _ => (0xFFE0003F#32, 0x4620000A#32)
  | .floorLS _ _ => (0xFFE0003F#32, 0x4600000B#32)
  | .floorLD _ _ => (0xFFE0003F#32, 0x4620000B#32)
  | .roundWS _ _ => (0xFFE0003F#32, 0x4600000C#32)
  | .roundWD _ _ => (0xFFE0003F#32, 0x4620000C#32)
  | .truncWS _ _ => (0xFFE0003F#32, 0x4600000D#32)
  | .truncWD _ _ => (0xFFE0003F#32, 0x4620000D#32)
  | .ceilWS _ _ => (0xFFE0003F#32, 0x4600000E#32)
  | .ceilWD _ _ => (0xFFE0003F#32, 0x4620000E#32)
  | .floorWS _ _ => (0xFFE0003F#32, 0x4600000F#32)
  | .floorWD _ _ => (0xFFE0003F#32, 0x4620000F#32)
  | .cvtSD _ _ => (0xFFE0003F#32, 0x46200020#32)
  | .cvtSW _ _ => (0xFFE0003F#32, 0x46800020#32)
  | .cvtSL _ _ => (0xFFE0003F#32, 0x46A00020#32)
  | .cvtDS _ _ => (0xFFE0003F#32, 0x46000021#32)
  | .cvtDW _ _ => (0xFFE0003F#32, 0x46800021#32)
  | .cvtDL _ _ => (0xFFE0003F#32, 0x46A00021#32)
  | .cvtWS _ _ => (0xFFE0003F#32, 0x46000024#32)
  | .cvtWD _ _ => (0xFFE0003F#32, 0x46200024#32)
  | .cvtLS _ _ => (0xFFE0003F#32, 0x46000025#32)
  | .cvtLD _ _ => (0xFFE0003F#32, 0x46200025#32)
  | .cFS _ _ => (0xFFE0003F#32, 0x46000030#32)
  | .cFD _ _ => (0xFFE0003F#32, 0x46200030#32)
  | .cUnS _ _ => (0xFFE0003F#32, 0x46000031#32)
  | .cUnD _ _ => (0xFFE0003F#32, 0x46200031#32)
  | .cEqS _ _ => (0xFFE0003F#32, 0x46000032#32)
  | .cEqD _ _ => (0xFFE0003F#32, 0x46200032#32)
  | .cUeqS _ _ => (0xFFE0003F#32, 0x46000033#32)
  | .cUeqD _ _ => (0xFFE0003F#32, 0x46200033#32)
  | .cOltS _ _ => (0xFFE0003F#32, 0x46000034#32)
  | .cOltD _ _ => (0xFFE0003F#32, 0x46200034#32)
  | .cUltS _ _ => (0xFFE0003F#32, 0x46000035#32)
  | .cUltD _ _ => (0xFFE0003F#32, 0x46200035#32)
  | .cOleS _ _ => (0xFFE0003F#32, 0x46000036#32)
  | .cOleD _ _ => (0xFFE0003F#32, 0x46200036#32)
  | .cUleS _ _ => (0xFFE0003F#32, 0x46000037#32)
  | .cUleD _ _ => (0xFFE0003F#32, 0x46200037#32)
  | .cSfS _ _ => (0xFFE0003F#32, 0x46000038#32)
  | .cSfD _ _ => (0xFFE0003F#32, 0x46200038#32)
  | .cNgleS _ _ => (0xFFE0003F#32, 0x46000039#32)
  | .cNgleD _ _ => (0xFFE0003F#32, 0x46200039#32)
  | .cSeqS _ _ => (0xFFE0003F#32, 0x4600003A#32)
  | .cSeqD _ _ => (0xFFE0003F#32, 0x4620003A#32)
  | .cNglS _ _ => (0xFFE0003F#32, 0x4600003B#32)
  | .cNglD _ _ => (0xFFE0003F#32, 0x4620003B#32)
  | .cLtS _ _ => (0xFFE0003F#32, 0x4600003C#32)
  | .cLtD _ _ => (0xFFE0003F#32, 0x4620003C#32)
  | .cNgeS _ _ => (0xFFE0003F#32, 0x4600003D#32)
  | .cNgeD _ _ => (0xFFE0003F#32, 0x4620003D#32)
  | .cLeS _ _ => (0xFFE0003F#32, 0x4600003E#32)
  | .cLeD _ _ => (0xFFE0003F#32, 0x4620003E#32)
  | .cNgtS _ _ => (0xFFE0003F#32, 0x4600003F#32)
  | .cNgtD _ _ => (0xFFE0003F#32, 0x4620003F#32)

/-- The instruction `decode` reads from a word given as a number: bit 0 of `w` is bit 0 of the word, and bits
at or above `nbits` are zero (R180). -/
def decodeTableWord (nbits w : Nat) : Option Instr :=
  match decode (BitVec.ofNat 32 (w % 2 ^ nbits)) with
  | .instr i => some i
  | .reserved _ => none

end Sys2Proof
end

