-- ==== Sys2Proof/Config.lean ====
section
/-! DEFINITION. What is fixed for one machine (spec/00_scope.md R7 to R9, spec/93_implementation_defined.md
Part 2) and what the spec leaves open. Three kinds, kept apart: named constants the spec gives a value; the
construction-time parameters, plain data that stands in State so that every statement holds for every value
of them; and the free values, constants with no body, of which nothing can be proved. -/

namespace Sys2Proof

/-! ## Constants with a value in the spec -/

/-- `TLB_SIZE = 48` (R8, D1). -/
def Config.tlbSize : Nat := 48

/-- `COUNT_DIV = 2`: elapsed cycles per increment of Count (R9, R50, D18). -/
def Config.countDiv : Nat := 2

/-- The reset vector `0xFFFFFFFF_BFC00000` (R22, R135, D4). -/
def Config.resetVector : DWord := 0xFFFFFFFFBFC00000#64

/-- The exception base with Status.BEV = 1 (R622). -/
def Config.bootBase : DWord := 0xFFFFFFFFBFC00200#64

/-- The exception base with Status.BEV = 0 (R622). -/
def Config.normalBase : DWord := 0xFFFFFFFF80000000#64

/-- Status after reset: BEV = 1, ERL = 1, every other bit 0 (R52, R690). -/
def Config.statusReset : Word := 0x00400004#32

/-! ## Construction-time parameters (R9) -/

/-- The processor variant (R9, D3). No rule differs between the three. -/
inductive Variant where
  | r4000
  | r4400
  | r4600
  deriving DecidableEq, Repr

/-- The construction-time parameters of R9 that the spec leaves OPEN and that are plain data. They stand in
State and no step changes them. -/
structure Params where
  /-- `VARIANT` (D3). -/
  variant : Variant
  /-- `PRID_VALUE`, read from CP0 PRId (R56). -/
  prid : Word
  /-- `FCR0_VALUE`, read from FCR0 (R32). -/
  fcr0 : Word
  /-- `CONFIG_RESET`, the reset value of CP0 Config (R57). -/
  configReset : Word
  /-- `BIG_ENDIAN`, the byte order of the bus (R107, D2). -/
  bigEndian : Bool
  /-- `CLOCK_HZ`; no rule depends on it (R9). -/
  clockHz : Nat
  /-- `LL_LINE_BYTES`, the size of the observed line (R141, D13). -/
  llLineBytes : Nat
  /-- `INVALID_W`, the result of an invalid conversion to a word (R523, D38). -/
  invalidW : Word
  /-- `INVALID_L`, the result of an invalid conversion to a doubleword (R523, D38). -/
  invalidL : DWord
  deriving DecidableEq, Repr

/-- The ranges R9, R32, R56 and R57 give the parameters: the line size is a power of two, at least 8 (and no
larger than the physical space); Config.BE reports the byte order and Config bit 12 is zero; PRId and FCR0
have zero in bits 31:16. -/
def Params.legal (p : Params) : Bool :=
  decide (8 ≤ p.llLineBytes) && decide (p.llLineBytes ≤ 2 ^ 36) &&
    decide (p.llLineBytes &&& (p.llLineBytes - 1) = 0) &&
    decide (p.configReset.getLsbD 15 = p.bigEndian) && decide (p.configReset.getLsbD 12 = false) &&
    decide (p.prid.extractLsb' 16 16 = 0#16) && decide (p.fcr0.extractLsb' 16 16 = 0#16)

/-- The parameters State.reset takes: a big-endian R4000 with the defaults the spec gives and the
implementation numbers R9 quotes. DESIGN CHOICE, unsafe (log entries 2 and 3); no statement rests on it. -/
def Params.default : Params where
  variant := .r4000
  prid := 0x00000400#32
  fcr0 := 0x00000500#32
  configReset := 0x00008000#32
  bigEndian := true
  clockHz := 100000000
  llLineBytes := 8
  invalidW := 0x7FFFFFFF#32
  invalidL := 0x7FFFFFFFFFFFFFFF#64

/-! ## Free values: what the spec leaves open

`draws` is the counter `State.draws`, which every step advances. -/

/-- A read of Random, before it is brought into `[Wired, TLB_SIZE - 1]` (R42, D28), by draw. -/
opaque Config.randomDraw : Nat → Nat

/-- Which of several matching TLB entries a translation uses (R128, D25), by draw and by kind of access
(0 fetch, 1 load, 2 store). -/
opaque Config.tlbPick : Nat → Nat → Nat

/-- What a later reset leaves in an item of state the spec calls unspecified (R690, D5), by draw and by the
item's number in the list of Machine/Cycle.lean. -/
opaque Config.resetDraw : Nat → Nat → DWord

/-- `ExtraCycles(op)`: extra budget units of an instruction, `none` for a step that executes none (R9, R224,
R712, D49). -/
opaque Config.extraCycles : Option Instr → Nat

/-- The NaN pattern a floating-point operation returns (R520, D39), by the operation's number, the rounding
mode and the two operands. Sign and fraction are taken from it; the result is always a NaN. -/
opaque Config.nanChoice : Nat → Nat → Nat → Nat → Nat

/-- Whether a NaN pattern (of the width given in bits) is signalling (R520, D39). -/
opaque Config.signallingNaN : Nat → Nat → Bool

/-- Whether tininess is detected before rounding (true) or after it (R520, D39). -/
opaque Config.tininessBeforeRounding : Bool

/-- Whether underflow is reported for an exact tiny result while its enable is set (R520, D39). -/
opaque Config.underflowOnExactTiny : Bool

end Sys2Proof
end

