-- ==== Sys2Proof/Machine/State.lean ====
section
/-! DEFINITION. The state of one core and of the memory behind its bus, as plain data (spec/10_state.md; the
list with every width and reset value is INVENTORY.md, State), the reasons a step can stop, and the state
after reset. -/

namespace Sys2Proof.Machine

/-- The branch/delay state (R28). At an instruction boundary it is `none` or `delay` (R29). -/
inductive BState where
  | none
  | delay
  | branch
  | exception
  | nullify
  deriving DecidableEq, Repr

/-- One physical-frame descriptor of a TLB entry (R38). -/
structure TlbLo where
  pfn : BitVec 24
  c : BitVec 3
  d : Bool
  v : Bool
  deriving DecidableEq, Repr

/-- One TLB entry (R38). -/
structure TlbEntry where
  mask : BitVec 12
  r : BitVec 2
  vpn2 : BitVec 27
  asid : BitVec 8
  g : Bool
  lo0 : TlbLo
  lo1 : TlbLo
  deriving DecidableEq, Repr

/-- The stored coprocessor-0 registers (R40 to R62), each in its own width. Random is drawn (R42), Count is
derived from the timer (R50), PRId is a parameter (R56), Cause.IP7..IP2 are live (R53): none of these is a
cell. -/
structure Cp0 where
  index : Word
  entryLo0 : DWord
  entryLo1 : DWord
  context : DWord
  pageMask : Word
  wired : Word
  badVAddr : DWord
  entryHi : DWord
  compare : Word
  status : Word
  cause : Word
  epc : DWord
  config : Word
  llAddr : Word
  watchLo : Word
  watchHi : Word
  xContext : DWord
  ecc : Word
  cacheErr : Word
  tagLo : Word
  tagHi : Word
  errorEpc : DWord
  deriving DecidableEq, Repr

/-- What the host and the other bus masters can do between two steps (R12, R15, R142, R157, R690). -/
inductive HostInput where
  /-- The six interrupt request lines take these levels (R12, R641). -/
  | irq (lines : BitVec 6)
  /-- The elapsed-cycle count grows by `n` (R12, R15). -/
  | elapse (n : Nat)
  /-- Another bus master writes one byte (R142, R157). -/
  | busWrite (pa : PAddr) (value : Byte)
  /-- The reset input is applied (R690). -/
  | reset
  deriving DecidableEq, Repr

/-- Physical memory: the bytes that differ from what an unlisted address reads as, by rising address (R101,
R103; canonical form `Memory.wf` in Machine/Memory.lean). -/
abbrev Memory := List Host.Cell

/-- The whole machine. -/
structure State where
  /-- The construction-time parameters (R9); no step changes them. -/
  params : Params
  /-- `x[0]` .. `x[31]` (R20). -/
  x : Vector DWord 32
  /-- The program counter (R22). -/
  pc : DWord
  /-- HI (R23). -/
  hi : DWord
  /-- LO (R23). -/
  lo : DWord
  /-- `F[0]` .. `F[31]` (R24). -/
  f : Vector DWord 32
  /-- FCR31 (R33). -/
  fcr31 : Word
  /-- The branch/delay state (R28). -/
  bstate : BState
  /-- The stored branch target (R28). -/
  btarget : DWord
  /-- LLbit: the observer is installed (R30). -/
  llbit : Bool
  /-- LLLine: the line the observer watches (R30). -/
  llLine : PAddr
  /-- The value last written to Count (R31). -/
  countBase : Word
  /-- `Cycles` when Count was last written (R31). -/
  countZero : Nat
  /-- `Cycles` at the last timer update (R31). -/
  timerSeen : Nat
  /-- The timer interrupt request (R31). -/
  timerPending : Bool
  /-- `Cycles`, the host's elapsed-cycle count at this boundary (R12). -/
  cycles : Nat
  /-- `ExtIrq[5:0]`, the levels of the interrupt lines at this boundary (R12, R641). -/
  extIrq : BitVec 6
  /-- The TLB array (R38). -/
  tlb : Vector TlbEntry 48
  /-- The stored coprocessor-0 registers (R40). -/
  cp0 : Cp0
  /-- Physical memory (R103). -/
  mem : Memory
  /-- The model's own: the host's inputs of the coming boundaries, the head for the next step. -/
  inputs : List (List HostInput)
  /-- The model's own: the counter of the free values of Config. -/
  draws : Nat
  deriving DecidableEq, Repr

/-- The reasons a step can stop with a fault. There is none: the core has no stuck state, no halt, no shutdown
and no double fault (R627, R644, spec/93 U58), so every fault of the spec is an exception the step takes. -/
inductive Fault where
  deriving DecidableEq, Repr

/-- The reasons a step is refused. Each but the first is a case the spec calls undefined and tells a model to
refuse; a refusal is safe. -/
inductive Refusal where
  /-- `exec` has no meaning yet for the instruction of this mnemonic: raised by Machine/Dispatch.lean only. Safe. -/
  | notModelled (mnemonic : String)
  /-- A Mask that is none of the seven page sizes is in use: raised by every mapped access while some TLB entry
  holds one (log entry 10), and by a TLBP whose scan consults one (R45, R125, U12). Safe. -/
  | undefinedPageMask
  /-- A 64-bit floating-point access names an odd register while Status.FR = 0: raised by the coprocessor-1
  instructions with a D or L operand (R481, U21, D36). Safe. -/
  | oddFpRegister
  /-- A coprocessor-2 instruction executes with Status.CU2 = 1: raised by COP2, LWC2, LDC2, SWC2, SDC2 (R452,
  U20, D33). Safe. -/
  | coprocessor2Enabled
  deriving DecidableEq, Repr

/-- What an instruction or a step answers. -/
abbrev Result := Host.Outcome State Fault Refusal

/-- A TLB entry with every field zero. -/
def TlbEntry.zero : TlbEntry where
  mask := 0#12
  r := 0#2
  vpn2 := 0#27
  asid := 0#8
  g := false
  lo0 := ⟨0#24, 0#3, false, false⟩
  lo1 := ⟨0#24, 0#3, false, false⟩

/-- The coprocessor-0 registers right after reset: Status and Wired as R690 says, Config the parameter, every
register whose reset value is unspecified zero. DESIGN CHOICE, unsafe (log entry 1). -/
def Cp0.reset (p : Params) : Cp0 where
  index := 0#32
  entryLo0 := 0#64
  entryLo1 := 0#64
  context := 0#64
  pageMask := 0#32
  wired := 0#32
  badVAddr := 0#64
  entryHi := 0#64
  compare := 0#32
  status := Config.statusReset
  cause := 0#32
  epc := 0#64
  config := p.configReset
  llAddr := 0#32
  watchLo := 0#32
  watchHi := 0#32
  xContext := 0#64
  ecc := 0#32
  cacheErr := 0#32
  tagLo := 0#32
  tagHi := 0#32
  errorEpc := 0#64

/-- The machine right after reset at construction (R690, R692): Status = BEV|ERL, Wired = 0, pc at the reset
vector, no pending branch, no observer, the Count time base at the cycle of reset. What the spec leaves
unspecified (U1, U2, U4) is zero here: DESIGN CHOICE, unsafe (log entry 1). The host's count `Cycles`, to which
CountZero and TimerSeen are set, is 0 at construction, and its lines are low: DESIGN CHOICE, unsafe (log entry
5). -/
def State.reset : State where
  params := Params.default
  x := Vector.replicate 32 0#64
  pc := Config.resetVector
  hi := 0#64
  lo := 0#64
  f := Vector.replicate 32 0#64
  fcr31 := 0#32
  bstate := .none
  btarget := 0#64
  llbit := false
  llLine := 0#36
  countBase := 0#32
  countZero := 0
  timerSeen := 0
  timerPending := false
  cycles := 0
  extIrq := 0#6
  tlb := Vector.replicate 48 TlbEntry.zero
  cp0 := Cp0.reset Params.default
  mem := []
  inputs := []
  draws := 0

end Sys2Proof.Machine
end

