-- ==== Sys2Proof/Machine/Status.lean ====
section
/-! DEFINITION. The fields of Status, Cause and the other coprocessor-0 registers that other rules read, and
the mode predicates, which are pure functions of Status (spec/00_scope.md R18, spec/10_state.md R52, R53). -/

namespace Sys2Proof.Machine

/-! ## Fields of Status (R52) -/

/-- Status.IE, bit 0. -/
def State.ie (s : State) : Bool := s.cp0.status.getLsbD 0

/-- Status.EXL, bit 1. -/
def State.exl (s : State) : Bool := s.cp0.status.getLsbD 1

/-- Status.ERL, bit 2. -/
def State.erl (s : State) : Bool := s.cp0.status.getLsbD 2

/-- Status.KSU, bits 4:3. -/
def State.ksu (s : State) : BitVec 2 := s.cp0.status.extractLsb' 3 2

/-- Status.UX, bit 5. -/
def State.ux (s : State) : Bool := s.cp0.status.getLsbD 5

/-- Status.SX, bit 6. -/
def State.sx (s : State) : Bool := s.cp0.status.getLsbD 6

/-- Status.KX, bit 7. -/
def State.kx (s : State) : Bool := s.cp0.status.getLsbD 7

/-- Status.IM7..IM0, bits 15:8. -/
def State.im (s : State) : BitVec 8 := s.cp0.status.extractLsb' 8 8

/-- Status.BEV, bit 22. -/
def State.bev (s : State) : Bool := s.cp0.status.getLsbD 22

/-- Status.RE, bit 25. -/
def State.re (s : State) : Bool := s.cp0.status.getLsbD 25

/-- Status.FR, bit 26. -/
def State.fr (s : State) : Bool := s.cp0.status.getLsbD 26

/-- Status.CU0, bit 28. -/
def State.cu0 (s : State) : Bool := s.cp0.status.getLsbD 28

/-- Status.CU1, bit 29. -/
def State.cu1 (s : State) : Bool := s.cp0.status.getLsbD 29

/-- Status.CU2, bit 30. -/
def State.cu2 (s : State) : Bool := s.cp0.status.getLsbD 30

/-- The bit of Status.EXL. -/
def exlMask : Word := 0x00000002#32

/-- The bit of Status.ERL. -/
def erlMask : Word := 0x00000004#32

/-! ## Mode predicates (R18, R650) -/

/-- `KernelMode`. -/
def State.kernelMode (s : State) : Bool := decide (s.ksu = 0#2) || s.exl || s.erl

/-- `SupervisorMode`. -/
def State.supervisorMode (s : State) : Bool := !s.kernelMode && decide (s.ksu = 1#2)

/-- `UserMode`: KSU = 2, and KSU = 3 (D52). -/
def State.userMode (s : State) : Bool := !s.kernelMode && !s.supervisorMode

/-- `Addr64`, the 64-bit-mode flag. -/
def State.addr64 (s : State) : Bool :=
  if s.kernelMode then s.kx else if s.supervisorMode then s.sx else s.ux

/-- `Ops64`: 64-bit operations are allowed. -/
def State.ops64 (s : State) : Bool := s.kernelMode || s.addr64

/-- `Cp0Usable`. -/
def State.cp0Usable (s : State) : Bool := s.kernelMode || s.cu0

/-- `Cp1Usable`. -/
def State.cp1Usable (s : State) : Bool := s.cu1

/-- `Cp2Usable`. -/
def State.cp2Usable (s : State) : Bool := s.cu2

/-- `ReverseEndian`. -/
def State.reverseEndian (s : State) : Bool := s.userMode && s.re

/-- `AddrWrap(v)`: the value itself in 64-bit addressing, sign-extended from bit 31 otherwise (D10). -/
def State.addrWrap (s : State) (v : DWord) : DWord :=
  if s.addr64 then v else (v.setWidth 32).signExtend 64

/-! ## Cause (R53, R641) -/

/-- The bits of Cause that are stored: BD, CE, IP1, IP0, ExcCode (R53). -/
def causeStored : Word := 0xB000037C#32

/-- `Cause.IP[7:0]` at this boundary: the stored software requests, the lines, and Int5 or the timer (R641). -/
def State.causeIp (s : State) : BitVec 8 :=
  let timer := BitVec.ofBool (s.extIrq.getLsbD 5 || s.timerPending)
  timer ++ s.extIrq.extractLsb' 0 5 ++ s.cp0.cause.extractLsb' 8 2

/-- `InterruptTaken` (R640, D17). -/
def State.interruptTaken (s : State) : Bool :=
  s.ie && !s.exl && !s.erl && decide (s.causeIp &&& s.im ≠ 0#8)

/-- Cause with a new ExcCode (bits 6:2) and CE (bits 29:28) (R53, R621). -/
def causeWithCode (c : Word) (code : BitVec 5) (ce : BitVec 2) : Word :=
  (c &&& ~~~0x3000007C#32) ||| (code.setWidth 32 <<< 2) ||| (ce.setWidth 32 <<< 28)

/-- Cause with a new BD (bit 31) (R53, R621). -/
def causeWithBd (c : Word) (bd : Bool) : Word :=
  (c &&& ~~~0x80000000#32) ||| (if bd then 0x80000000#32 else 0#32)

/-! ## The TLB registers -/

/-- `CP0.EntryHi.ASID`, the current address-space identifier (R48). -/
def State.asid (s : State) : BitVec 8 := s.cp0.entryHi.extractLsb' 0 8

/-- `CP0.Index.Index` (R41). -/
def State.indexField (s : State) : Nat := (s.cp0.index.extractLsb' 0 6).toNat

/-- `CP0.Wired.Wired` (R46). -/
def State.wiredField (s : State) : Nat := (s.cp0.wired.extractLsb' 0 6).toNat

end Sys2Proof.Machine
end

