-- ==== Sys2Proof/Machine/Flags.lean ====
section
/-! DEFINITION. The conditions and flags: signed overflow of the trapping arithmetic (spec/41_integer_alu.md
R240), and the fields of FCR31 (spec/10_state.md R33, spec/48_fpu_basic.md R482). The integer unit has no
other flag (R35). -/

namespace Sys2Proof.Machine

/-- `AddOvf_32(a, b)`: same-signed operands yield an opposite-signed sum (R240 (c)). -/
def addOvf32 (a b : Word) : Bool := decide (a.msb = b.msb) && decide ((a + b).msb ≠ a.msb)

/-- `AddOvf_64(a, b)` (R240 (c)). -/
def addOvf64 (a b : DWord) : Bool := decide (a.msb = b.msb) && decide ((a + b).msb ≠ a.msb)

/-- `SubOvf_32(a, b)`: the rule applied to `a + (-b)` (R240 (c), D48). -/
def subOvf32 (a b : Word) : Bool := decide (a.msb ≠ b.msb) && decide ((a - b).msb ≠ a.msb)

/-- `SubOvf_64(a, b)` (R240 (c), D48). -/
def subOvf64 (a b : DWord) : Bool := decide (a.msb ≠ b.msb) && decide ((a - b).msb ≠ a.msb)

/-- The library's exception set {V, Z, O, U, I}, V in bit 4 down to I in bit 0: the order of the Cause, Enable
and Flag fields of FCR31 (R33, R482). -/
abbrev FpFlags := BitVec 5

/-- A set of floating-point exceptions. -/
def fpFlags (v z o u i : Bool) : FpFlags :=
  BitVec.ofBool v ++ BitVec.ofBool z ++ BitVec.ofBool o ++ BitVec.ofBool u ++ BitVec.ofBool i

/-- The writable bits of FCR31 (R33). -/
def fcr31Mask : Word := 0x0183FFFF#32

/-- FCR31.Cause[V,Z,O,U,I], bits 16:12. -/
def fcrCause (w : Word) : FpFlags := w.extractLsb' 12 5

/-- FCR31.Cause.E, bit 17. -/
def fcrCauseE (w : Word) : Bool := w.getLsbD 17

/-- FCR31.Enable, bits 11:7. -/
def fcrEnable (w : Word) : FpFlags := w.extractLsb' 7 5

/-- FCR31.Flag, bits 6:2. -/
def fcrFlag (w : Word) : FpFlags := w.extractLsb' 2 5

/-- FCR31.C, bit 23. -/
def fcrC (w : Word) : Bool := w.getLsbD 23

/-- FCR31 with the Cause field set to `fl` and E cleared (R482). -/
def fcrSetCause (w : Word) (fl : FpFlags) : Word :=
  (w &&& ~~~0x0003F000#32) ||| (fl.setWidth 32 <<< 12)

/-- FCR31 with Cause = E only (R483). -/
def fcrSetCauseE (w : Word) : Word := (w &&& ~~~0x0003F000#32) ||| 0x00020000#32

/-- FCR31 with `fl` accumulated into the sticky Flag field (R482). -/
def fcrOrFlag (w : Word) (fl : FpFlags) : Word := w ||| (fl.setWidth 32 <<< 2)

/-- FCR31 with the condition bit set to `c` (R524). -/
def fcrSetC (w : Word) (c : Bool) : Word :=
  (w &&& ~~~0x00800000#32) ||| (if c then 0x00800000#32 else 0#32)

/-- Whether a value of FCR31 asks for the floating-point exception: Cause E, or a Cause bit whose Enable bit is
set (R489). -/
def fcrRaises (w : Word) : Bool := fcrCauseE w || decide (fcrCause w &&& fcrEnable w ≠ 0#5)

/-- The condition of `C.cond.fmt`: bit 2 selects less, bit 1 equal, bit 0 unordered (R524). -/
def fpCondition (cond : BitVec 4) (less equal unordered : Bool) : Bool :=
  (cond.getLsbD 2 && less) || (cond.getLsbD 1 && equal) || (cond.getLsbD 0 && unordered)

end Sys2Proof.Machine
end

