-- ==== Sys2Proof/Machine/Memory.lean ====
section
/-! DEFINITION. Physical memory and the bus calls (spec/20_memory.md R101 to R107). Addresses are numbers
below 2^36; the byte order is decided here, once. -/

namespace Sys2Proof.Machine

/-- What a byte of memory that nothing has written reads as. The spec leaves it to the platform (R135, U45):
DESIGN CHOICE, unsafe (log entry 4). -/
def unlistedByte : Byte := 0#8

/-- The canonical form: addresses strictly rising, no entry equal to what an unlisted address reads as. -/
def Memory.wf : Memory → Bool
  | [] => true
  | (a, v) :: rest => decide (v ≠ unlistedByte) && rest.all (fun c => decide (a < c.1)) && Memory.wf rest

/-- The byte at an address. -/
def Memory.readByte (m : Memory) (a : Nat) : Byte :=
  match m with
  | [] => unlistedByte
  | (b, v) :: rest => if b = a then v else Memory.readByte rest a

/-- Memory with one byte written; the canonical form is kept. -/
def Memory.writeByte (m : Memory) (a : Nat) (v : Byte) : Memory :=
  match m with
  | [] => if v = unlistedByte then [] else [(a, v)]
  | (b, w) :: rest =>
    if a < b then (if v = unlistedByte then (b, w) :: rest else (a, v) :: (b, w) :: rest)
    else if a = b then (if v = unlistedByte then rest else (a, v) :: rest)
    else (b, w) :: Memory.writeByte rest a v

/-- Memory with the listed bytes written, in order. -/
def Memory.writeCells (m : Memory) (cells : List Host.Cell) : Memory :=
  cells.foldl (fun acc c => Memory.writeByte acc c.1 c.2) m

/-- The bit position of byte `i` of an `n`-byte value: `8*(n-1-i)` big-endian, `8*i` little-endian (R104). -/
def byteLane (bigEndian : Bool) (n i : Nat) : Nat := 8 * (if bigEndian then n - 1 - i else i)

/-- `MemRead(pa, n)`, zero-extended to 64 bits (R104). -/
def memRead (bigEndian : Bool) (m : Memory) (pa n : Nat) : DWord :=
  (List.range n).foldl
    (fun acc i => acc ||| ((Memory.readByte m (pa + i)).setWidth 64 <<< byteLane bigEndian n i)) 0#64

/-- The bytes of `write{8n}(pa, v, m)`: byte `i` of the value for every `i` whose mask byte is `0xFF` (R106). -/
def maskedCells (bigEndian : Bool) (pa n : Nat) (v mask : DWord) : List Host.Cell :=
  (List.range n).filterMap fun i =>
    if (mask >>> byteLane bigEndian n i).setWidth 8 = 0xFF#8 then
      some (pa + i, (v >>> byteLane bigEndian n i).setWidth 8)
    else none

/-- The bytes of `MemWrite(pa, n, v)`: the mask is all ones (R105). -/
def valueCells (bigEndian : Bool) (pa n : Nat) (v : DWord) : List Host.Cell :=
  maskedCells bigEndian pa n v (BitVec.allOnes 64)

end Sys2Proof.Machine
end

