-- ==== Sys2Proof/Machine/Operands.lean ====
section
/-! DEFINITION. The operand forms: immediates and their extension (spec/30_encoding.md R183), effective
addresses (R360), branch and jump targets (R320, R324), shift amounts (R280), and the lanes of the partial
loads and stores (R363). -/

namespace Sys2Proof.Machine

/-- `sext32to64(w)`: the low 32 bits, sign-extended (R17). -/
def sext32to64 (v : DWord) : DWord := (v.setWidth 32).signExtend 64

/-- Bits 31:0 of a register operand (R240, D8). -/
def low32 (v : DWord) : Word := v.setWidth 32

/-- A sign-extended 16-bit immediate (R183). -/
def sextImm (imm : BitVec 16) : DWord := imm.signExtend 64

/-- A 16-bit immediate sign-extended to 32 bits, for ADDI and ADDIU (R255, R256). -/
def sextImm32 (imm : BitVec 16) : Word := imm.signExtend 32

/-- A zero-extended 16-bit immediate (R183). -/
def zextImm (imm : BitVec 16) : DWord := imm.setWidth 64

/-- The immediate of LUI: `sext_64(imm || 0^16)` (R183, R264). -/
def luiImm (imm : BitVec 16) : DWord := (imm ++ 0#16).signExtend 64

/-- `EA = AddrWrap(x[base] + sext_64(offset))`, the base register's value given (R360). -/
def effectiveAddress (s : State) (base : DWord) (offset : BitVec 16) : DWord :=
  s.addrWrap (base + sextImm offset)

/-- `Target = AddrWrap((pc + 4) + sext_64(offset || 0^2))` (R320). -/
def branchTarget (s : State) (offset : BitVec 16) : DWord :=
  s.addrWrap ((s.pc + 4#64) + (offset ++ 0#2).signExtend 64)

/-- The target of J and JAL: the upper 36 bits of the delay slot's address and `target || 0^2` (R324, D63). -/
def jumpTarget (s : State) (target : BitVec 26) : DWord :=
  ((s.pc + 4#64) &&& 0xFFFFFFFFF0000000#64) ||| (target ++ 0#2).setWidth 64

/-- The return address of the link instructions, `pc + 8` (R323). -/
def linkAddress (s : State) : DWord := s.pc + 8#64

/-- The amount of a 32-bit variable shift: bits 4:0 of `x[rs]` (R280). -/
def shiftAmount32 (v : DWord) : Nat := (v.extractLsb' 0 5).toNat

/-- The amount of a 64-bit variable shift: bits 5:0 of `x[rs]` (R280). -/
def shiftAmount64 (v : DWord) : Nat := (v.extractLsb' 0 6).toNat

/-- `shL` of R363: the shift of the left forms, for a byte offset `k` in `n` bytes. -/
def leftShift (bigEndian : Bool) (n k : Nat) : Nat := 8 * (if bigEndian then k else n - 1 - k)

/-- `shR` of R363: the shift of the right forms. -/
def rightShift (bigEndian : Bool) (n k : Nat) : Nat := 8 * (if bigEndian then n - 1 - k else k)

end Sys2Proof.Machine
end

