-- ==== Sys2Proof/Machine/Ops.lean ====
section
/-! DEFINITION. The named operations every meaning is built from: registers, taking an exception and returning
from one, translation, the virtual-address primitives, the load-linked observer, and the usability checks. -/

namespace Sys2Proof.Machine

/-! ## General and floating-point registers -/

/-- `x[r]`: register 0 reads as zero (R20). -/
def State.getX (s : State) (r : Reg) : DWord := if r = 0 then 0#64 else s.x[r.val]

/-- `x[r] <- v`: a write to register 0 is discarded (R20). -/
def State.setX (s : State) (r : Reg) (v : DWord) : State :=
  if r = 0 then s else { s with x := s.x.set r.val v }

/-- `x[0] <- 0` at the end of every executed instruction (R220). -/
def State.forceX0 (s : State) : State := { s with x := s.x.set 0 0#64 }

/-- The even register of the pair that holds register `n` (R24, R481). -/
def evenReg (n : FReg) : FReg := ⟨n.val - n.val % 2, by have := n.isLt; omega⟩

/-- Register `n` may be named by a 64-bit access: FR = 1, or `n` is even (R481). -/
def State.f64Legal (s : State) (n : FReg) : Bool := s.fr || decide (n.val % 2 = 0)

/-- `ReadF32(n)` (R481). -/
def State.readF32 (s : State) (n : FReg) : Word :=
  if s.fr || decide (n.val % 2 = 0) then s.f[n.val].extractLsb' 0 32
  else s.f[(evenReg n).val].extractLsb' 32 32

/-- `WriteF32(n, v)`: with FR = 1 the upper half is zeroed (R481, D37); with FR = 0 one half of the even cell is
replaced. -/
def State.writeF32 (s : State) (n : FReg) (v : Word) : State :=
  if s.fr then { s with f := s.f.set n.val (v.setWidth 64) }
  else if n.val % 2 = 0 then
    { s with f := s.f.set n.val (s.f[n.val].extractLsb' 32 32 ++ v) }
  else
    { s with f := s.f.set (evenReg n).val (v ++ s.f[(evenReg n).val].extractLsb' 0 32) }

/-- `ReadF64(n)`; `none` where the access is undefined (R481, U21). -/
def State.readF64 (s : State) (n : FReg) : Option DWord :=
  if s.f64Legal n then some s.f[n.val] else none

/-- `WriteF64(n, v)`; `none` where the access is undefined (R481, U21). -/
def State.writeF64 (s : State) (n : FReg) (v : DWord) : Option State :=
  if s.f64Legal n then some { s with f := s.f.set n.val v } else none

/-- Continue with a 64-bit floating-point operand, or refuse the undefined access (R481). -/
def withF64 (s : State) (n : FReg) (k : DWord → Result) : Result :=
  match s.readF64 n with
  | some v => k v
  | none => .refused .oddFpRegister

/-- Complete with a 64-bit floating-point result, or refuse the undefined access (R481). -/
def commitF64 (s : State) (n : FReg) (v : DWord) : Result :=
  match s.writeF64 n v with
  | some t => .next t
  | none => .refused .oddFpRegister

/-! ## Exceptions (spec/60_exceptions.md) -/

/-- The exceptions the core raises (R620); IBE, DBE, VCEI and VCED are never raised (R628). -/
inductive ExcCode where
  | int
  | mod
  | tlbl
  | tlbs
  | adel
  | ades
  | sys
  | bp
  | ri
  | cpu
  | ov
  | tr
  | fpe
  | watch
  deriving DecidableEq, Repr

/-- The code numbers (R620). -/
def excNumber (c : ExcCode) : BitVec 5 :=
  match c with
  | .int => 0#5
  | .mod => 1#5
  | .tlbl => 2#5
  | .tlbs => 3#5
  | .adel => 4#5
  | .ades => 5#5
  | .sys => 8#5
  | .bp => 9#5
  | .ri => 10#5
  | .cpu => 11#5
  | .ov => 12#5
  | .tr => 13#5
  | .fpe => 15#5
  | .watch => 23#5

/-- `VectorBase`, selected by Status.BEV (R622). -/
def State.vectorBase (s : State) : DWord := if s.bev then Config.bootBase else Config.normalBase

/-- The offset of the general vector (R622). -/
def generalOffset : DWord := 0x180#64

/-- `Exception(code, ce, offset)`, the one way an exception is taken (R621): EPC, Cause.BD and EXL only when
EXL is 0; ExcCode, CE, pc and `bstate` always; nothing else. -/
def takeException (code : ExcCode) (ce : BitVec 2) (offset : DWord) (s : State) : State :=
  let inSlot := decide (s.bstate = .delay)
  let cause := causeWithCode s.cp0.cause (excNumber code) ce
  let cp0 : Cp0 :=
    if s.exl then { s.cp0 with cause := cause }
    else
      { s.cp0 with
        cause := causeWithBd cause inSlot
        epc := if inSlot then s.pc - 4#64 else s.pc
        status := s.cp0.status ||| exlMask }
  { s with cp0 := cp0, pc := s.vectorBase + offset, bstate := .exception }

/-- `raise X` with `ce = 0` and the general vector (R621). -/
def State.raise (s : State) (c : ExcCode) : State := takeException c 0#2 generalOffset s

/-- `raise CpU(ce = n)` (R440, R452, R480). -/
def State.raiseCpU (s : State) (n : BitVec 2) : State := takeException .cpu n generalOffset s

/-- The return from an exception, ERET's effect in a mode that may run it: the error level first, the observer
removed, no delay slot (R623). -/
def returnFromException (s : State) : State :=
  if s.erl then
    { s with
      pc := s.cp0.errorEpc
      cp0 := { s.cp0 with status := s.cp0.status &&& ~~~erlMask }
      bstate := .exception
      llbit := false }
  else
    { s with
      pc := s.cp0.epc
      cp0 := { s.cp0 with status := s.cp0.status &&& ~~~exlMask }
      bstate := .exception
      llbit := false }

/-! ## Usability checks -/

/-- A 64-bit operation raises RI when `Ops64` is false (R194, D7). -/
def guardOps64 (s : State) (r : Result) : Result := if s.ops64 then r else .next (s.raise .ri)

/-- A coprocessor-0 instruction raises CpU(0) when coprocessor 0 is not usable (R440). -/
def guardCp0 (s : State) (r : Result) : Result := if s.cp0Usable then r else .next (s.raiseCpU 0#2)

/-- A coprocessor-1 instruction raises CpU(1) when coprocessor 1 is not usable (R480). -/
def guardCp1 (s : State) (r : Result) : Result := if s.cp1Usable then r else .next (s.raiseCpU 1#2)

/-- The coprocessor-2 stub: CpU(2) when CU2 = 0, undefined otherwise (R452). -/
def cop2Stub (s : State) : Result :=
  if s.cp2Usable then .refused .coprocessor2Enabled else .next (s.raiseCpU 2#2)

/-! ## Address translation (spec/20_memory.md, section 4) -/

/-- Instruction fetch, load or store. The intent of R120 is WRITE for a store and READ otherwise. -/
inductive AccessKind where
  | fetch
  | load
  | store
  deriving DecidableEq, Repr

/-- The number by which `Config.tlbPick` knows the kind of access. -/
def accessNumber (k : AccessKind) : Nat :=
  match k with
  | .fetch => 0
  | .load => 1
  | .store => 2

/-- The cache policy an `OK` answer reports; it has no effect on any value (R132, R160). -/
inductive Policy where
  | cached
  | uncached
  deriving DecidableEq, Repr

/-- The classification of a virtual address (R120, step 1). -/
inductive Segment where
  | unmapped (pa : PAddr) (policy : Policy)
  | mapped
  | error
  deriving DecidableEq, Repr

/-- The three kinds of TLB exception (R130). -/
inductive TlbMiss where
  | refill
  | invalid
  | modify
  deriving DecidableEq, Repr

/-- The outcomes of `Translate` (R120), the undefined PageMask case among them (U12). -/
inductive Translation where
  | ok (pa : PAddr) (policy : Policy)
  | error
  | miss (m : TlbMiss)
  | undefinedMask
  deriving DecidableEq, Repr

/-- `lo <= va <= hi` as unsigned numbers. -/
def inRange (va lo hi : DWord) : Bool := decide (lo ≤ va) && decide (va ≤ hi)

/-- `Unmapped(va[28:0], policy)`, kseg0 and kseg1 (R121). -/
def unmapped29 (va : DWord) (p : Policy) : Segment := .unmapped ((va.extractLsb' 0 29).setWidth 36) p

/-- `Unmapped(va[30:0], UNCACHED)`, the low 2 GiB under ERL (R121, R122). -/
def unmapped31 (va : DWord) : Segment := .unmapped ((va.extractLsb' 0 31).setWidth 36) .uncached

/-- The segments above `0xFFFFFFFF_80000000` that both kernel maps share (R121, R122). -/
def classifyCompat (va : DWord) : Segment :=
  if inRange va 0xFFFFFFFF80000000#64 0xFFFFFFFF9FFFFFFF#64 then unmapped29 va .cached
  else if inRange va 0xFFFFFFFFA0000000#64 0xFFFFFFFFBFFFFFFF#64 then unmapped29 va .uncached
  else if inRange va 0xFFFFFFFFC0000000#64 0xFFFFFFFFDFFFFFFF#64 then .mapped
  else if inRange va 0xFFFFFFFFE0000000#64 0xFFFFFFFFFFFFFFFF#64 then .mapped
  else .error

/-- Kernel mode, KX = 0 (R121). -/
def classifyKernel32 (erl : Bool) (va : DWord) : Segment :=
  if inRange va 0#64 0x7FFFFFFF#64 then (if erl then unmapped31 va else .mapped)
  else classifyCompat va

/-- xkphys (R122). -/
def classifyXkphys (va : DWord) : Segment :=
  if va.extractLsb' 36 23 ≠ 0#23 then .error
  else .unmapped (va.setWidth 36) (if va.extractLsb' 59 3 = 2#3 then .uncached else .cached)

/-- Kernel mode, KX = 1 (R122). -/
def classifyKernel64 (erl : Bool) (va : DWord) : Segment :=
  if inRange va 0#64 0xFFFFFFFFFF#64 then
    (if erl && decide (va < 0x80000000#64) then unmapped31 va else .mapped)
  else if inRange va 0x4000000000000000#64 0x400000FFFFFFFFFF#64 then .mapped
  else if inRange va 0x8000000000000000#64 0xBFFFFFFFFFFFFFFF#64 then classifyXkphys va
  else if inRange va 0xC000000000000000#64 0xC00000FF7FFFFFFF#64 then .mapped
  else classifyCompat va

/-- Supervisor mode (R123). -/
def classifySupervisor (sx : Bool) (va : DWord) : Segment :=
  if sx then
    if inRange va 0#64 0xFFFFFFFFFF#64 then .mapped
    else if inRange va 0x4000000000000000#64 0x400000FFFFFFFFFF#64 then .mapped
    else if inRange va 0xFFFFFFFFC0000000#64 0xFFFFFFFFDFFFFFFF#64 then .mapped
    else .error
  else
    if inRange va 0#64 0x7FFFFFFF#64 then .mapped
    else if inRange va 0xFFFFFFFFC0000000#64 0xFFFFFFFFDFFFFFFF#64 then .mapped
    else .error

/-- User mode (R124). -/
def classifyUser (ux : Bool) (va : DWord) : Segment :=
  if ux then (if inRange va 0#64 0xFFFFFFFFFF#64 then .mapped else .error)
  else (if inRange va 0#64 0x7FFFFFFF#64 then .mapped else .error)

/-- Classification by the current privilege level and addressing width (R120 step 1, R121 to R124). -/
def classify (s : State) (va : DWord) : Segment :=
  if s.kernelMode then
    (if s.kx then classifyKernel64 s.erl va else classifyKernel32 s.erl va)
  else if s.supervisorMode then classifySupervisor s.sx va
  else classifyUser s.ux va

/-- The seven values of Mask that denote a page size (R45). -/
def legalMask (m : BitVec 12) : Bool :=
  decide (m ∈ [0x000#12, 0x003#12, 0x00F#12, 0x03F#12, 0x0FF#12, 0x3FF#12, 0xFFF#12])

/-- `OffMask(e)` (R125). -/
def offMask (e : TlbEntry) : PAddr := (e.mask.setWidth 36 <<< 12) ||| 0xFFF#36

/-- `EvenOddBit(e)`: 1 + the position of the highest 1 bit of `OffMask(e)` (R125). -/
def evenOddBit (e : TlbEntry) : Nat := Nat.log2 (offMask e).toNat + 1

/-- The match predicate (R126): the VPN2 bits of the addressing width outside the entry's mask, `R` in 64-bit
addressing, and the ASID unless the entry is global. -/
def entryMatches (ext : Bool) (asid : BitVec 8) (va : DWord) (e : TlbEntry) : Bool :=
  let width : BitVec 27 := if ext then BitVec.allOnes 27 else 0x7FFFF#27
  decide ((va.extractLsb' 13 27 ^^^ e.vpn2) &&& ~~~(e.mask.setWidth 27) &&& width = 0#27) &&
    (!ext || decide (va.extractLsb' 62 2 = e.r)) && (e.g || decide (e.asid = asid))

/-- The indexes of the entries that match, in rising order (R126, R127). -/
def State.matching (s : State) (va : DWord) : List (Fin 48) :=
  (List.finRange 48).filter fun i => entryMatches s.addr64 s.asid va s.tlb[i.val]

/-- Every entry's Mask is one of the seven page sizes (R45, U12). -/
def State.tlbMasksLegal (s : State) : Bool := s.tlb.toList.all fun e => legalMask e.mask

/-- The entry a translation uses: the matching one, or, of several, any (a draw; R128, D25). -/
def State.pickEntry (s : State) (k : AccessKind) (va : DWord) : Option TlbEntry :=
  match s.matching va with
  | [] => none
  | [i] => some s.tlb[i.val]
  | i :: rest =>
    let n := Config.tlbPick s.draws (accessNumber k) % (rest.length + 1)
    some (s.tlb[((i :: rest).getD n i).val])

/-- The outcome for a mapped address with the entry `e` (R127). -/
def entryOutcome (k : AccessKind) (va : DWord) (e : TlbEntry) : Translation :=
  let lo := if va.getLsbD (evenOddBit e) then e.lo1 else e.lo0
  if !lo.v then .miss .invalid
  else if decide (k = .store) && !lo.d then .miss .modify
  else
    .ok (((lo.pfn.setWidth 36 <<< 12) &&& ~~~(offMask e)) ||| (va.setWidth 36 &&& offMask e))
      (if lo.c = 2#3 then .uncached else .cached)

/-- `Translate(va, intent)` (R120): it reads the state and changes nothing; the TLB exception of a MISS is
raised by its caller (`State.raiseTlb`). -/
def translate (s : State) (k : AccessKind) (va : DWord) : Translation :=
  match classify s va with
  | .unmapped pa p => .ok pa p
  | .error => .error
  | .mapped =>
    if !s.tlbMasksLegal then .undefinedMask
    else
      match s.pickEntry k va with
      | none => .miss .refill
      | some e => entryOutcome k va e

/-- The registers every TLB exception writes before it is raised (R131). -/
def State.tlbRegisters (s : State) (va : DWord) : State :=
  { s with
    cp0 :=
      { s.cp0 with
        badVAddr := va
        entryHi := (va &&& 0xC00000FFFFFFE000#64) ||| s.asid.setWidth 64
        context := (s.cp0.context &&& ~~~0x7FFFF0#64) ||| ((va.extractLsb' 13 19).setWidth 64 <<< 4)
        xContext :=
          (s.cp0.xContext &&& ~~~0x1FFFFFFF0#64) ||| ((va.extractLsb' 62 2).setWidth 64 <<< 31) |||
            ((va.extractLsb' 13 27).setWidth 64 <<< 4) } }

/-- The code of a TLB exception (R130). -/
def tlbCode (m : TlbMiss) (k : AccessKind) : ExcCode :=
  match m with
  | .modify => .mod
  | _ => if k = .store then .tlbs else .tlbl

/-- The vector offset of a TLB exception (R130, D22). -/
def State.tlbOffset (s : State) (m : TlbMiss) : DWord :=
  match m with
  | .refill => if s.exl then generalOffset else if s.addr64 then 0x080#64 else 0x000#64
  | _ => generalOffset

/-- A TLB exception: the registers of R131, then the exception (R130). -/
def State.raiseTlb (s : State) (m : TlbMiss) (k : AccessKind) (va : DWord) : State :=
  takeException (tlbCode m k) 0#2 (s.tlbOffset m) (s.tlbRegisters va)

/-- An address error: BadVAddr, then AdES for a store and AdEL otherwise (R113). -/
def State.raiseAddressError (s : State) (k : AccessKind) (va : DWord) : State :=
  let t : State := { s with cp0 := { s.cp0 with badVAddr := va } }
  t.raise (if k = .store then .ades else .adel)

/-! ## The virtual-address primitives (spec/20_memory.md, section 3) -/

/-- An access that completes with a value, raises an exception, or is undefined. -/
inductive Access (α : Type) where
  | done (a : α)
  | raised (t : State)
  | refused (r : Refusal)

/-- Go on with the value of an access that completed; an exception ends the instruction (R17). -/
def Access.andThen {α : Type} (a : Access α) (k : α → Result) : Result :=
  match a with
  | .done v => k v
  | .raised t => .next t
  | .refused r => .refused r

/-- `WatchHit(pa, kind)`: the watched doubleword, with the enable of the kind of access, not under EXL or ERL,
never for a fetch (R115). -/
def State.watchHit (s : State) (k : AccessKind) (pa : PAddr) : Bool :=
  !s.exl && !s.erl &&
    (match k with
      | .fetch => false
      | .load => s.cp0.watchLo.getLsbD 1
      | .store => s.cp0.watchLo.getLsbD 0) &&
    decide (pa.extractLsb' 3 33 = s.cp0.watchHi.extractLsb' 0 4 ++ s.cp0.watchLo.extractLsb' 3 29)

/-- Translation and watchpoint of an access, in the order of R116; the answer is the physical address. -/
def locate (s : State) (k : AccessKind) (va : DWord) : Access PAddr :=
  match translate s k va with
  | .ok pa _ => if s.watchHit k pa then .raised (s.raise .watch) else .done pa
  | .error => .raised (s.raiseAddressError k va)
  | .miss m => .raised (s.raiseTlb m k va)
  | .undefinedMask => .refused .undefinedPageMask

/-- Alignment first, then translation and watchpoint (R110 to R112, R116). -/
def checkedLocate (s : State) (k : AccessKind) (va : DWord) (n : Nat) : Access PAddr :=
  if va.toNat % n ≠ 0 then .raised (s.raiseAddressError k va) else locate s k va

/-- The physical address of an `n`-byte data access: reversed within the doubleword under `ReverseEndian` (R108). -/
def State.dataAddress (s : State) (pa : PAddr) (n : Nat) : PAddr :=
  if s.reverseEndian then pa ^^^ BitVec.ofNat 36 (8 - n) else pa

/-- `Fetch(va)` (R112): never watched, never reversed. -/
def fetch (s : State) (va : DWord) : Access Word :=
  match checkedLocate s .fetch va 4 with
  | .done pa => .done ((memRead s.params.bigEndian s.mem pa.toNat 4).setWidth 32)
  | .raised t => .raised t
  | .refused r => .refused r

/-- `Load(va, n)` (R110): the translated address, which a load-linked needs (R141), and the value, zero-extended. -/
def load (s : State) (va : DWord) (n : Nat) : Access (PAddr × DWord) :=
  match checkedLocate s .load va n with
  | .done pa => .done (pa, memRead s.params.bigEndian s.mem (s.dataAddress pa n).toNat n)
  | .raised t => .raised t
  | .refused r => .refused r

/-- An address lies in the line the observer watches (R142). -/
def State.inLine (s : State) (a : Nat) : Bool :=
  decide (s.llLine.toNat ≤ a) && decide (a < s.llLine.toNat + s.params.llLineBytes)

/-- Bytes written to memory by any agent: a byte of the observed line removes the observer (R105, R106, R142). -/
def State.writeCells (s : State) (cells : List Host.Cell) : State :=
  { s with
    mem := Memory.writeCells s.mem cells
    llbit := s.llbit && !(cells.any fun c => s.inLine c.1) }

/-- The bytes `Store(va, n, v)` writes once its address is known (R105, R108). -/
def State.storeCellsAt (s : State) (pa : PAddr) (n : Nat) (v : DWord) : List Host.Cell :=
  valueCells s.params.bigEndian (s.dataAddress pa n).toNat n v

/-- `Store(va, n, v)` (R111), `v` in the low `8n` bits. -/
def store (s : State) (va : DWord) (n : Nat) (v : DWord) : Access State :=
  match checkedLocate s .store va n with
  | .done pa => .done (s.writeCells (s.storeCellsAt pa n v))
  | .raised t => .raised t
  | .refused r => .refused r

/-- `PartAddr(EA, N, intent)`: the aligned address and the byte offset of a partial access (R363). -/
def partAddr (s : State) (k : AccessKind) (va : DWord) (n : Nat) : Access (Nat × Nat) :=
  match locate s k va with
  | .done pa =>
    let e := if s.reverseEndian then pa ^^^ 7#36 else pa
    .done (e.toNat - e.toNat % n, e.toNat % n)
  | .raised t => .raised t
  | .refused r => .refused r

/-- Install the observer on the line of `pa` (R141). -/
def State.installObserver (s : State) (pa : PAddr) : State :=
  { s with
    llbit := true
    llLine := pa &&& ~~~(BitVec.ofNat 36 (s.params.llLineBytes - 1))
    cp0 := { s.cp0 with llAddr := pa.extractLsb' 4 32 } }

/-- A side-effect-suppressed read of the debug channel: no exception, no watchpoint, no state change; a failure
is reported (R14, R150). No step calls it (D68). -/
def debugRead (s : State) (va : DWord) (n : Nat) : Option DWord :=
  if va.toNat % n ≠ 0 then none
  else
    match translate s .load va with
    | .ok pa _ => some (memRead s.params.bigEndian s.mem (s.dataAddress pa n).toNat n)
    | _ => none

/-! ## Branches (R321, R322) -/

/-- A taken branch or a jump: `btarget <- target; bstate <- BRANCH`. -/
def State.takeBranch (s : State) (target : DWord) : State :=
  { s with btarget := target, bstate := .branch }

/-- An ordinary conditional branch (R321). -/
def State.branchIf (s : State) (c : Bool) (target : DWord) : State :=
  if c then s.takeBranch target else s

/-- A likely branch: untaken, it nullifies its delay slot (R322). -/
def State.branchLikely (s : State) (c : Bool) (target : DWord) : State :=
  if c then s.takeBranch target else { s with bstate := .nullify }

/-- A conditional trap (R410). -/
def trapIf (s : State) (c : Bool) : Result := .next (if c then s.raise .tr else s)

end Sys2Proof.Machine
end

