-- ==== Sys2Proof/Machine/Cp0.lean ====
section
/-! DEFINITION. The coprocessor-0 registers as software sees them: `Rd` and `Wr` (spec/10_state.md R40 to R62),
the draw of Random (R42), the derived Count and the timer (R50, R51; spec/60_exceptions.md R642), and the
entries the TLB instructions move (spec/47_cp0_tlb.md R447 to R450). -/

namespace Sys2Proof.Machine

/-! ## Count and the timer -/

/-- `CountAt(c)` (R642). -/
def State.countAt (s : State) (c : Nat) : Word := s.countBase + BitVec.ofNat 32 ((c - s.countZero) / Config.countDiv)

/-- `CountNow` (R50). -/
def State.countNow (s : State) : Word := s.countAt s.cycles

/-- `Hit(c)`: Count becomes equal to Compare at cycle `c` (R642). -/
def State.timerHit (s : State) (c : Nat) : Bool :=
  decide (s.countZero < c) && decide ((c - s.countZero) % Config.countDiv = 0) &&
    decide (s.countAt c = s.cp0.compare)

/-- `UpdateTimer` (R642): a hit in `TimerSeen < c <= Cycles` sets the request. -/
def updateTimer (s : State) : State :=
  { s with
    timerPending :=
      s.timerPending || (List.range (s.cycles - s.timerSeen)).any fun k => s.timerHit (s.timerSeen + 1 + k)
    timerSeen := s.cycles }

/-! ## Random -/

/-- A read of Random: a draw in `[Wired, TLB_SIZE - 1]`, and `TLB_SIZE - 1` when Wired is not below `TLB_SIZE`
(R42, D28). -/
def State.randomValue (s : State) : Nat :=
  if s.wiredField < Config.tlbSize then
    s.wiredField + Config.randomDraw s.draws % (Config.tlbSize - s.wiredField)
  else Config.tlbSize - 1

/-! ## Rd and Wr -/

/-- The 32-bit value of Cause: the stored bits and the live interrupt requests (R53). -/
def State.causeValue (s : State) : Word := (s.cp0.cause &&& causeStored) ||| (s.causeIp.setWidth 32 <<< 8)

/-- `Rd(n)`, the 64 bits a coprocessor-0 read returns (R41 to R62). -/
def State.rdCp0 (s : State) (n : CReg) : DWord :=
  match n.val with
  | 0 => s.cp0.index.setWidth 64
  | 1 => BitVec.ofNat 64 s.randomValue
  | 2 => s.cp0.entryLo0
  | 3 => s.cp0.entryLo1
  | 4 => s.cp0.context
  | 5 => s.cp0.pageMask.setWidth 64
  | 6 => s.cp0.wired.setWidth 64
  | 8 => s.cp0.badVAddr
  | 9 => s.countNow.setWidth 64
  | 10 => s.cp0.entryHi
  | 11 => s.cp0.compare.setWidth 64
  | 12 => s.cp0.status.setWidth 64
  | 13 => s.causeValue.setWidth 64
  | 14 => s.cp0.epc
  | 15 => s.params.prid.setWidth 64
  | 16 => s.cp0.config.setWidth 64
  | 17 => s.cp0.llAddr.setWidth 64
  | 18 => s.cp0.watchLo.setWidth 64
  | 19 => s.cp0.watchHi.setWidth 64
  | 20 => s.cp0.xContext
  | 26 => s.cp0.ecc.setWidth 64
  | 27 => s.cp0.cacheErr.setWidth 64
  | 28 => s.cp0.tagLo.setWidth 64
  | 29 => s.cp0.tagHi.setWidth 64
  | 30 => s.cp0.errorEpc
  | _ => 0#64

/-- "Write mask M", 64 bits (R40). -/
def masked64 (m old v : DWord) : DWord := (old &&& ~~~m) ||| (v &&& m)

/-- "Write mask M" on a 32-bit register (R40). -/
def masked32 (m old v : Word) : Word := (old &&& ~~~m) ||| (v &&& m)

/-- `Wr(n, v)` where it stores into one coprocessor-0 cell and does nothing else (R41 to R62); the read-only and
reserved numbers, Count and Compare change no cell here. -/
def Cp0.write (c : Cp0) (n : CReg) (v : DWord) : Cp0 :=
  let w : Word := v.setWidth 32
  match n.val with
  | 0 => { c with index := masked32 0x8000003F#32 c.index w }
  | 2 => { c with entryLo0 := masked64 0x3FFFFFFF#64 c.entryLo0 v }
  | 3 => { c with entryLo1 := masked64 0x3FFFFFFF#64 c.entryLo1 v }
  | 4 => { c with context := masked64 0xFFFFFFFFFF800000#64 c.context v }
  | 5 => { c with pageMask := masked32 0x01FFE000#32 c.pageMask w }
  | 6 => { c with wired := masked32 0x3F#32 c.wired w }
  | 10 => { c with entryHi := masked64 0xC00000FFFFFFE0FF#64 c.entryHi v }
  | 12 => { c with status := w }
  | 13 => { c with cause := masked32 0x300#32 c.cause w }
  | 14 => { c with epc := v }
  | 16 => { c with config := masked32 0x3F#32 c.config w }
  | 17 => { c with llAddr := w }
  | 18 => { c with watchLo := masked32 0xFFFFFFFB#32 c.watchLo w }
  | 19 => { c with watchHi := masked32 0xF#32 c.watchHi w }
  | 20 => { c with xContext := masked64 0xFFFFFFFE00000000#64 c.xContext v }
  | 26 => { c with ecc := masked32 0xFF#32 c.ecc w }
  | 28 => { c with tagLo := w }
  | 29 => { c with tagHi := w }
  | 30 => { c with errorEpc := v }
  | _ => c

/-- `Wr(9, v)`: Count is re-based (R50). -/
def State.writeCount (s : State) (v : DWord) : State :=
  { s with countBase := v.setWidth 32, countZero := s.cycles }

/-- `Wr(11, v)`: Compare is stored and the timer request cleared (R51). -/
def State.writeCompare (s : State) (v : DWord) : State :=
  { s with cp0 := { s.cp0 with compare := v.setWidth 32 }, timerPending := false }

/-- `Wr(n, v)` (R41 to R62). -/
def State.wrCp0 (s : State) (n : CReg) (v : DWord) : State :=
  if n.val = 9 then s.writeCount v
  else if n.val = 11 then s.writeCompare v
  else { s with cp0 := s.cp0.write n v }

/-! ## The TLB registers as an entry, and back -/

/-- One descriptor from EntryLo0 or EntryLo1 (R448). -/
def loFromReg (v : DWord) : TlbLo where
  pfn := v.extractLsb' 6 24
  c := v.extractLsb' 3 3
  d := v.getLsbD 2
  v := v.getLsbD 1

/-- `EntryFromRegs` (R448). -/
def State.entryFromRegs (s : State) : TlbEntry where
  mask := s.cp0.pageMask.extractLsb' 13 12
  r := s.cp0.entryHi.extractLsb' 62 2
  vpn2 := s.cp0.entryHi.extractLsb' 13 27
  asid := s.cp0.entryHi.extractLsb' 0 8
  g := s.cp0.entryLo0.getLsbD 0 && s.cp0.entryLo1.getLsbD 0
  lo0 := loFromReg s.cp0.entryLo0
  lo1 := loFromReg s.cp0.entryLo1

/-- EntryLo0 or EntryLo1 from a descriptor and the entry's G (R447). -/
def regFromLo (l : TlbLo) (g : Bool) : DWord :=
  (l.pfn ++ l.c ++ BitVec.ofBool l.d ++ BitVec.ofBool l.v ++ BitVec.ofBool g).setWidth 64

/-- EntryHi from an entry (R447). -/
def hiFromEntry (e : TlbEntry) : DWord := e.r ++ 0#22 ++ e.vpn2 ++ 0#5 ++ e.asid

/-- The registers TLBR writes from an entry (R447). -/
def Cp0.loadEntry (c : Cp0) (e : TlbEntry) : Cp0 :=
  { c with
    pageMask := e.mask.setWidth 32 <<< 13
    entryHi := hiFromEntry e
    entryLo0 := regFromLo e.lo0 e.g
    entryLo1 := regFromLo e.lo1 e.g }

/-- `TLB[i] <- e`; an index outside the array writes nothing (R448, D26). -/
def State.writeTlb (s : State) (i : Nat) (e : TlbEntry) : State :=
  if h : i < 48 then { s with tlb := s.tlb.set i e h } else s

/-- The probe's scan over the entries given, in their order (R450): Index of the first that matches, P when none
does (D27), and `none` where an entry it consults holds an undefined Mask (U12). -/
def State.probeScan (s : State) (va : DWord) : List (Fin 48) → Option Word
  | [] => some 0x80000000#32
  | i :: rest =>
    let e := s.tlb[i.val]
    if !legalMask e.mask then none
    else if entryMatches s.addr64 s.asid va e then some (BitVec.ofNat 32 i.val)
    else s.probeScan va rest

end Sys2Proof.Machine
end

