-- ==== Sys2Proof/Machine/Cycle.lean ====
section
/-! DEFINITION. What a step does around an instruction: the host's inputs at the boundary (spec/00_scope.md
R12), reset (spec/70_reset_and_hazards.md R690), the delay-state table (spec/40_dispatch.md R221), a reserved
word (spec/46_trap_system.md R427, spec/49_fpu_arith.md R599), and the end of the step. Step.lean only calls
these. -/

namespace Sys2Proof.Machine

/-! ## Reset -/

/-- What a later reset leaves in item `n` of the state the spec calls unspecified (R690, D5): any value. -/
def State.resetItem (s : State) (n : Nat) : DWord := Config.resetDraw s.draws n

/-- The low 32 bits of a reset item. -/
def State.resetItem32 (s : State) (n : Nat) : Word := (s.resetItem n).setWidth 32

/-- Thirty-two reset items as a register file, the first of them item `base`. Irreducible, so that reading another
field of a reset state never computes it. -/
@[irreducible] def State.resetFile (s : State) (base : Nat) : Vector DWord 32 :=
  Vector.ofFn fun (i : Fin 32) => s.resetItem (base + i.val)

/-- The coprocessor-0 registers after a later reset: Status, Wired and Config as R690 says, ErrorEPC unchanged
(R55), every other register any value of its writable and hardware-written bits (item 128 + its number). -/
def Cp0.afterReset (s : State) : Cp0 where
  index := s.resetItem32 128 &&& 0x8000003F#32
  entryLo0 := s.resetItem 130 &&& 0x3FFFFFFF#64
  entryLo1 := s.resetItem 131 &&& 0x3FFFFFFF#64
  context := s.resetItem 132 &&& 0xFFFFFFFFFFFFFFF0#64
  pageMask := s.resetItem32 133 &&& 0x01FFE000#32
  wired := 0#32
  badVAddr := s.resetItem 136
  entryHi := s.resetItem 138 &&& 0xC00000FFFFFFE0FF#64
  compare := s.resetItem32 139
  status := Config.statusReset
  cause := s.resetItem32 141 &&& causeStored
  epc := s.resetItem 142
  config := s.params.configReset
  llAddr := s.resetItem32 145
  watchLo := s.resetItem32 146 &&& 0xFFFFFFFB#32
  watchHi := s.resetItem32 147 &&& 0xF#32
  xContext := s.resetItem 148 &&& 0xFFFFFFFFFFFFFFF0#64
  ecc := s.resetItem32 154 &&& 0xFF#32
  cacheErr := s.resetItem32 155
  tagLo := s.resetItem32 156
  tagHi := s.resetItem32 157
  errorEpc := s.cp0.errorEpc

/-- The reset input applied between two steps (R690): the TLB and memory keep their contents, the lines and
`Cycles` are the host's, and every register the spec calls unspecified takes any value (log entry 7). -/
def applyReset (s : State) : State :=
  { s with
    x := (s.resetFile 0).set 0 0#64
    pc := Config.resetVector
    hi := s.resetItem 32
    lo := s.resetItem 33
    f := s.resetFile 64
    fcr31 := s.resetItem32 34 &&& fcr31Mask
    bstate := .none
    btarget := s.resetItem 35
    llbit := false
    countBase := s.resetItem32 36
    countZero := s.cycles
    timerSeen := s.cycles
    timerPending := (s.resetItem 37).getLsbD 0
    cp0 := Cp0.afterReset s
    draws := s.draws + 1 }

/-! ## Inputs -/

/-- One input of the host (R12, R142, R157, R690). -/
def applyInput (s : State) (i : HostInput) : State :=
  match i with
  | .irq lines => { s with extIrq := lines }
  | .elapse n => { s with cycles := s.cycles + n }
  | .busWrite pa v => s.writeCells [(pa.toNat, v)]
  | .reset => applyReset s

/-- The inputs of this boundary, in their order; the levels and the counts stay until they change (log entry
5). -/
def takeInputs (s : State) : State :=
  match s.inputs with
  | [] => s
  | now :: later => now.foldl applyInput { s with inputs := later }

/-- Everything before the interrupt test of a step: the inputs of the boundary, then `UpdateTimer` (R220). -/
def beginStep (s : State) : State := updateTimer (takeInputs s)

/-! ## Reserved words -/

/-- `FpUnimplemented` (R483): Cause E alone, then FPE. -/
def fpUnimplemented (s : State) : State := { s with fcr31 := fcrSetCauseE s.fcr31 }.raise .fpe

/-- `Execute` of a word that is no instruction (R193, R427, R440, R599). -/
def execReserved (k : ReservedKind) (s : State) : Result :=
  match k with
  | .plain => .next (s.raise .ri)
  | .cop0 => guardCp0 s (.next (s.raise .ri))
  | .cop1 => guardCp1 s (.next (fpUnimplemented s))

/-! ## The end of a step -/

/-- `Advance`, the delay-state table (R221). -/
def advance (s : State) : State :=
  match s.bstate with
  | .none => { s with pc := s.pc + 4#64 }
  | .delay => { s with pc := s.btarget, bstate := .none }
  | .branch => { s with pc := s.pc + 4#64, bstate := .delay }
  | .exception => { s with bstate := .none }
  | .nullify => { s with pc := s.pc + 8#64, bstate := .none }

/-- `Advance`, then time: the step took `1 + ExtraCycles(op)` cycles (R224), and the free values are drawn
afresh in the next step. -/
def endStep (op : Option Instr) (s : State) : State :=
  let t := advance s
  { t with cycles := t.cycles + (1 + Config.extraCycles op), draws := t.draws + 1 }

/-- Part 2 of the step ends with `x[0] <- 0`; then the end of the step (R220). A refusal stays one. -/
def finishStep (op : Option Instr) (r : Result) : Result :=
  match r with
  | .next t => .next (endStep op t.forceX0)
  | .fault f => .fault f
  | .refused q => .refused q

/-- The fetched word decoded and executed, `Execute(w)` (R222), the meaning of an instruction given. -/
def executeWord (run : Instr → State → Result) (w : Word) (s : State) : Result :=
  match decode w with
  | .instr i => finishStep (some i) (run i s)
  | .reserved k => finishStep none (execReserved k s)

/-- One step (R220), the meaning of an instruction given. -/
def stepWith (run : Instr → State → Result) (s : State) : Result :=
  let t := beginStep s
  if t.interruptTaken then .next (endStep none (t.raise .int))
  else
    match fetch t t.pc with
    | .done w => executeWord run w t
    | .raised u => finishStep none (.next u)
    | .refused q => .refused q

/-- A word stored where the next step fetches: at the translated pc, in the bus's byte order; memory only. -/
def placeWord (s : State) (w : Word) : State :=
  match translate s .fetch s.pc with
  | .ok pa _ =>
    { s with mem := Memory.writeCells s.mem (valueCells s.params.bigEndian pa.toNat 4 (w.setWidth 64)) }
  | _ => s

end Sys2Proof.Machine
end

