-- ==== Sys2Proof/Machine/BranchJump.lean ====
section
/-! DEFINITION. Branches and jumps (spec/44_branch_jump.md R320 to R344). A branch never writes the pc: the advance of
the step does. -/

namespace Sys2Proof.Machine

/-- `signed(v) < 0`. -/
def negative (v : DWord) : Bool := v.msb

/-- `signed(v) <= 0`. -/
def notPositive (v : DWord) : Bool := v.msb || decide (v = 0#64)

/-- The link register of the link instructions but JALR (R323). -/
def linkReg : Reg := 31

/-- J: jump within the region of the delay slot (R324). -/
def execJ (target : BitVec 26) (s : State) : Result :=
  .next (s.takeBranch (jumpTarget s target))

/-- JAL: link in `x[31]` and jump (R325). -/
def execJal (target : BitVec 26) (s : State) : Result :=
  .next ((s.setX linkReg (linkAddress s)).takeBranch (jumpTarget s target))

/-- JR: jump to `AddrWrap(x[rs])`; the alignment is checked when the target is fetched (R326). D10 says that a
register target is not wrapped; the rule is followed (log entry 21). -/
def execJr (rs : Reg) (s : State) : Result :=
  .next (s.takeBranch (s.addrWrap (s.getX rs)))

/-- JALR: the source is read, then the link written in `x[rd]`; the target is wrapped, against D10 (R327; log
entry 21). -/
def execJalr (rd : Reg) (rs : Reg) (s : State) : Result :=
  .next ((s.setX rd (linkAddress s)).takeBranch (s.addrWrap (s.getX rs)))

/-- BEQ: branch when `x[rs] = x[rt]` (R328). -/
def execBeq (rs : Reg) (rt : Reg) (offset : BitVec 16) (s : State) : Result :=
  .next (s.branchIf (decide (s.getX rs = s.getX rt)) (branchTarget s offset))

/-- BNE: branch when `x[rs] != x[rt]` (R329). -/
def execBne (rs : Reg) (rt : Reg) (offset : BitVec 16) (s : State) : Result :=
  .next (s.branchIf (decide (s.getX rs ≠ s.getX rt)) (branchTarget s offset))

/-- BLEZ: branch when `signed(x[rs]) <= 0` (R330). -/
def execBlez (rs : Reg) (offset : BitVec 16) (s : State) : Result :=
  .next (s.branchIf (notPositive (s.getX rs)) (branchTarget s offset))

/-- BGTZ: branch when `signed(x[rs]) > 0` (R331). -/
def execBgtz (rs : Reg) (offset : BitVec 16) (s : State) : Result :=
  .next (s.branchIf (!notPositive (s.getX rs)) (branchTarget s offset))

/-- BEQL: likely branch when `x[rs] = x[rt]` (R332). -/
def execBeql (rs : Reg) (rt : Reg) (offset : BitVec 16) (s : State) : Result :=
  .next (s.branchLikely (decide (s.getX rs = s.getX rt)) (branchTarget s offset))

/-- BNEL: likely branch when `x[rs] != x[rt]` (R333). -/
def execBnel (rs : Reg) (rt : Reg) (offset : BitVec 16) (s : State) : Result :=
  .next (s.branchLikely (decide (s.getX rs ≠ s.getX rt)) (branchTarget s offset))

/-- BLEZL: likely branch when `signed(x[rs]) <= 0` (R334). -/
def execBlezl (rs : Reg) (offset : BitVec 16) (s : State) : Result :=
  .next (s.branchLikely (notPositive (s.getX rs)) (branchTarget s offset))

/-- BGTZL: likely branch when `signed(x[rs]) > 0` (R335). -/
def execBgtzl (rs : Reg) (offset : BitVec 16) (s : State) : Result :=
  .next (s.branchLikely (!notPositive (s.getX rs)) (branchTarget s offset))

/-- BLTZ: branch when `signed(x[rs]) < 0` (R336). -/
def execBltz (rs : Reg) (offset : BitVec 16) (s : State) : Result :=
  .next (s.branchIf (negative (s.getX rs)) (branchTarget s offset))

/-- BGEZ: branch when `signed(x[rs]) >= 0` (R337). -/
def execBgez (rs : Reg) (offset : BitVec 16) (s : State) : Result :=
  .next (s.branchIf (!negative (s.getX rs)) (branchTarget s offset))

/-- BLTZL: likely branch when `signed(x[rs]) < 0` (R338). -/
def execBltzl (rs : Reg) (offset : BitVec 16) (s : State) : Result :=
  .next (s.branchLikely (negative (s.getX rs)) (branchTarget s offset))

/-- BGEZL: likely branch when `signed(x[rs]) >= 0` (R339). -/
def execBgezl (rs : Reg) (offset : BitVec 16) (s : State) : Result :=
  .next (s.branchLikely (!negative (s.getX rs)) (branchTarget s offset))

/-- BLTZAL: link always, branch when the old `x[rs]` is negative (R340). -/
def execBltzal (rs : Reg) (offset : BitVec 16) (s : State) : Result :=
  .next ((s.setX linkReg (linkAddress s)).branchIf (negative (s.getX rs)) (branchTarget s offset))

/-- BGEZAL: link always, branch when the old `x[rs]` is not negative (R341). -/
def execBgezal (rs : Reg) (offset : BitVec 16) (s : State) : Result :=
  .next ((s.setX linkReg (linkAddress s)).branchIf (!negative (s.getX rs)) (branchTarget s offset))

/-- BLTZALL: link always, likely branch when the old `x[rs]` is negative (R342). -/
def execBltzall (rs : Reg) (offset : BitVec 16) (s : State) : Result :=
  .next ((s.setX linkReg (linkAddress s)).branchLikely (negative (s.getX rs)) (branchTarget s offset))

/-- BGEZALL: link always, likely branch when the old `x[rs]` is not negative (R343). -/
def execBgezall (rs : Reg) (offset : BitVec 16) (s : State) : Result :=
  .next ((s.setX linkReg (linkAddress s)).branchLikely (!negative (s.getX rs)) (branchTarget s offset))

end Sys2Proof.Machine
end

