-- ==== Sys2Proof/Machine/Cp0Tlb.lean ====
section
/-! DEFINITION. Coprocessor-0 moves, TLB instructions, ERET and the coprocessor-2 stub (spec/47_cp0_tlb.md R440 to R456,
spec/60_exceptions.md R623). -/

namespace Sys2Proof.Machine

/-- MFC0: the low word of the register, sign-extended; CpU(0) (R441). -/
def execMfc0 (rt : Reg) (rd : CReg) (s : State) : Result :=
  guardCp0 s (.next (s.setX rt (sext32to64 (s.rdCp0 rd))))

/-- DMFC0: all 64 bits of the register; CpU(0), then RI without Ops64 (R442). -/
def execDmfc0 (rt : Reg) (rd : CReg) (s : State) : Result :=
  guardCp0 s (guardOps64 s (.next (s.setX rt (s.rdCp0 rd))))

/-- MTC0: `Wr(rd, sext_64(x[rt][31:0]))`; CpU(0) (R443). -/
def execMtc0 (rt : Reg) (rd : CReg) (s : State) : Result :=
  guardCp0 s (.next (s.wrCp0 rd (sext32to64 (s.getX rt))))

/-- DMTC0: `Wr(rd, x[rt])`; CpU(0), then RI without Ops64 (R444). -/
def execDmtc0 (rt : Reg) (rd : CReg) (s : State) : Result :=
  guardCp0 s (guardOps64 s (.next (s.wrCp0 rd (s.getX rt))))

/-- TLBR: the entry at Index into PageMask, EntryHi, EntryLo0, EntryLo1; nothing for an Index outside the array (R447). -/
def execTlbr (s : State) : Result :=
  guardCp0 s <| .next <|
    if h : s.indexField < 48 then { s with cp0 := s.cp0.loadEntry s.tlb[s.indexField] } else s

/-- TLBWI: the registers into the entry at Index; nothing for an Index outside the array (R448). -/
def execTlbwi (s : State) : Result :=
  guardCp0 s (.next (s.writeTlb s.indexField s.entryFromRegs))

/-- TLBWR: the registers into the entry a read of Random names (R449). -/
def execTlbwr (s : State) : Result :=
  guardCp0 s (.next (s.writeTlb s.randomValue s.entryFromRegs))

/-- TLBP: Index of the lowest matching entry, or P, by a linear scan from entry 0 (R450); refused when an entry the
scan consults holds an undefined Mask (U12). -/
def execTlbp (s : State) : Result :=
  guardCp0 s <|
    match s.probeScan s.cp0.entryHi (List.finRange 48) with
    | some v => .next { s with cp0 := { s.cp0 with index := v } }
    | none => .refused .undefinedPageMask

/-- ERET: the return from an exception; CpU(0) (R623). -/
def execEret (s : State) : Result :=
  guardCp0 s (.next (returnFromException s))

/-- COP2: the coprocessor-2 stub (R452). -/
def execCop2 (_cofun : Nat) (s : State) : Result :=
  cop2Stub s

/-- LWC2: the coprocessor-2 stub, before any address is formed (R453). -/
def execLwc2 (_rt : Reg) (_base : Reg) (_offset : BitVec 16) (s : State) : Result :=
  cop2Stub s

/-- LDC2: the coprocessor-2 stub (R454). -/
def execLdc2 (_rt : Reg) (_base : Reg) (_offset : BitVec 16) (s : State) : Result :=
  cop2Stub s

/-- SWC2: the coprocessor-2 stub (R455). -/
def execSwc2 (_rt : Reg) (_base : Reg) (_offset : BitVec 16) (s : State) : Result :=
  cop2Stub s

/-- SDC2: the coprocessor-2 stub (R456). -/
def execSdc2 (_rt : Reg) (_base : Reg) (_offset : BitVec 16) (s : State) : Result :=
  cop2Stub s

end Sys2Proof.Machine
end

