-- ==== Sys2Proof/Machine/FpLib.lean ====
section
/-! DEFINITION. The floating-point library the core calls (spec/49_fpu_arith.md R520, R522, R523): IEEE 754
binary32 and binary64 arithmetic on bit patterns, computed exactly and rounded once, with the exception set.
What R520 leaves open is a free value of Config (log entry 13). Patterns are natural numbers here; the
instructions convert. -/

namespace Sys2Proof.Machine

/-- A binary interchange format: the widths of the exponent and of the fraction. -/
structure FpFormat where
  expBits : Nat
  fracBits : Nat
  deriving DecidableEq, Repr

/-- binary32: 8-bit exponent, 23-bit fraction (R520). -/
def fmtS : FpFormat := ⟨8, 23⟩

/-- binary64: 11-bit exponent, 52-bit fraction (R520). -/
def fmtD : FpFormat := ⟨11, 52⟩

/-- What a pattern denotes: a NaN, an infinity, or `(-1)^neg * m * 2^e`. -/
inductive FpValue where
  | nan
  | inf (neg : Bool)
  | finite (neg : Bool) (m : Nat) (e : Int)
  deriving DecidableEq, Repr

/-- A result pattern and the exception set. -/
abbrev FpResult := Nat × FpFlags

/-- The exponent of the unit of a subnormal number: `2 - 2^(expBits-1) - fracBits`. -/
def FpFormat.emin (fmt : FpFormat) : Int := 2 - (2 ^ (fmt.expBits - 1) : Nat) - (fmt.fracBits : Nat)

/-- The width of a pattern. -/
def FpFormat.width (fmt : FpFormat) : Nat := 1 + fmt.expBits + fmt.fracBits

/-- The sign of a pattern. -/
def fpSign (fmt : FpFormat) (b : Nat) : Bool := decide (b / 2 ^ (fmt.expBits + fmt.fracBits) % 2 = 1)

/-- The pattern without its sign. -/
def fpMagnitude (fmt : FpFormat) (b : Nat) : Nat := b % 2 ^ (fmt.expBits + fmt.fracBits)

/-- The magnitude of infinity: the exponent field all ones, the fraction zero. -/
def fpInfMagnitude (fmt : FpFormat) : Nat := (2 ^ fmt.expBits - 1) * 2 ^ fmt.fracBits

/-- A pattern from its sign and magnitude. -/
def fpPack (fmt : FpFormat) (neg : Bool) (mag : Nat) : Nat :=
  (if neg then 2 ^ (fmt.expBits + fmt.fracBits) else 0) + mag

/-- The infinity of a sign. -/
def fpInf (fmt : FpFormat) (neg : Bool) : Nat := fpPack fmt neg (fpInfMagnitude fmt)

/-- The zero of a sign. -/
def fpZero (fmt : FpFormat) (neg : Bool) : Nat := fpPack fmt neg 0

/-- `isNaN` (R520). -/
def fpIsNaN (fmt : FpFormat) (b : Nat) : Bool := decide (fpInfMagnitude fmt < fpMagnitude fmt b)

/-- `isSNaN` (R520): which NaN patterns are signalling is left open (D39). -/
def fpIsSNaN (fmt : FpFormat) (b : Nat) : Bool := fpIsNaN fmt b && Config.signallingNaN fmt.width b

/-- The value of a pattern. -/
def fpUnpack (fmt : FpFormat) (b : Nat) : FpValue :=
  let neg := fpSign fmt b
  let ex := fpMagnitude fmt b / 2 ^ fmt.fracBits
  let frac := fpMagnitude fmt b % 2 ^ fmt.fracBits
  if ex = 2 ^ fmt.expBits - 1 then (if frac = 0 then .inf neg else .nan)
  else if ex = 0 then .finite neg frac fmt.emin
  else .finite neg (2 ^ fmt.fracBits + frac) (fmt.emin + (ex - 1 : Nat))

/-- Whether a truncated magnitude `n` with remainder `r` of `d` is rounded up in magnitude (R522). -/
def fpRoundUp (rm : BitVec 2) (neg : Bool) (n r d : Nat) : Bool :=
  if rm = 0#2 then decide (d < 2 * r) || (decide (2 * r = d) && decide (n % 2 = 1))
  else if rm = 1#2 then false
  else if rm = 2#2 then !neg && decide (r ≠ 0)
  else neg && decide (r ≠ 0)

/-- `num/den * 2^e` rounded to an integral multiple of `2^q`: the multiple, and whether it is inexact. -/
def fpRoundAt (rm : BitVec 2) (neg : Bool) (num den : Nat) (e q : Int) : Nat × Bool :=
  let n := num * 2 ^ (e - q).toNat
  let d := den * 2 ^ (q - e).toNat
  (n / d + (if fpRoundUp rm neg (n / d) (n % d) d then 1 else 0), decide (n % d ≠ 0))

/-- The floor of the binary logarithm of `num/den`. -/
def fpLog2 (num den : Nat) : Int :=
  let k : Int := (Nat.log2 num : Int) - (Nat.log2 den : Int)
  if den * 2 ^ k.toNat ≤ num * 2 ^ (-k).toNat then k else k - 1

/-- The result of an overflow: infinity, or the largest finite number where the mode rounds toward zero. -/
def fpOverflow (fmt : FpFormat) (rm : BitVec 2) (neg : Bool) : Nat :=
  let toInf := decide (rm = 0#2) || (decide (rm = 2#2) && !neg) || (decide (rm = 3#2) && neg)
  fpPack fmt neg (if toInf then fpInfMagnitude fmt else fpInfMagnitude fmt - 1)

/-- The correctly rounded result of the exact value `(-1)^neg * num/den * 2^e` and its exception set (R520).
`enU` is the underflow enable. -/
def fpRound (fmt : FpFormat) (rm : BitVec 2) (enU neg : Bool) (num den : Nat) (e : Int) : FpResult :=
  if num = 0 then (fpZero fmt neg, 0#5)
  else
    let lg := fpLog2 num den + e
    let q0 := lg - (fmt.fracBits : Int)
    let q := if q0 < fmt.emin then fmt.emin else q0
    let (n, inexact) := fpRoundAt rm neg num den e q
    let mag := (q - fmt.emin).toNat * 2 ^ fmt.fracBits + n
    if fpInfMagnitude fmt ≤ mag then (fpOverflow fmt rm neg, fpFlags false false true false true)
    else
      let before := decide (q0 < fmt.emin)
      let after :=
        before && !(decide (q0 + 1 = fmt.emin) &&
          decide ((fpRoundAt rm neg num den e q0).1 = 2 ^ (fmt.fracBits + 1)))
      let tiny := after || (before && Config.tininessBeforeRounding)
      let u := tiny && (inexact || (enU && Config.underflowOnExactTiny))
      (fpPack fmt neg mag, fpFlags false false false u inexact)

/-! ## NaN results -/

/-- The operations that can return a NaN, by the number under which `Config.nanChoice` knows them. -/
inductive FpOp where
  | add
  | sub
  | mul
  | div
  | sqrt
  | cvt
  deriving DecidableEq, Repr

/-- The number of an operation with a result format. -/
def fpOpNumber (op : FpOp) (fmt : FpFormat) : Nat :=
  (match op with
    | .add => 0
    | .sub => 1
    | .mul => 2
    | .div => 3
    | .sqrt => 4
    | .cvt => 5) + 8 * fmt.width

/-- The NaN an operation returns: sign and fraction are free, and it is a NaN (R520, D39). -/
def fpNaN (fmt : FpFormat) (op : FpOp) (rm : BitVec 2) (a b : Nat) : Nat :=
  let c := Config.nanChoice (fpOpNumber op fmt) rm.toNat a b
  let frac := c % 2 ^ fmt.fracBits
  fpPack fmt (decide (c / 2 ^ fmt.fracBits % 2 = 1))
    (fpInfMagnitude fmt + (if frac = 0 then 1 else frac))

/-- The flag set of an operation on a NaN operand: V for a signalling one (R520). -/
def fpNaNFlags (signalling : Bool) : FpFlags := fpFlags signalling false false false false

/-- The invalid-operation result: a NaN with V (R520). -/
def fpInvalid (fmt : FpFormat) (op : FpOp) (rm : BitVec 2) (a b : Nat) : FpResult :=
  (fpNaN fmt op rm a b, fpFlags true false false false false)

/-- The result of a two-operand operation with a NaN operand. -/
def fpPropagate (fmt : FpFormat) (op : FpOp) (rm : BitVec 2) (a b : Nat) : FpResult :=
  (fpNaN fmt op rm a b, fpNaNFlags (fpIsSNaN fmt a || fpIsSNaN fmt b))

/-! ## The operations (R520) -/

/-- The exact sum of two finite values, rounded; an exact zero sum of unlike signs is -0 toward minus infinity
and +0 otherwise. -/
def fpAddFinite (fmt : FpFormat) (rm : BitVec 2) (enU : Bool) (na : Bool) (ma : Nat) (ea : Int)
    (nb : Bool) (mb : Nat) (eb : Int) : FpResult :=
  let e := if ea ≤ eb then ea else eb
  let ia : Int := (ma * 2 ^ (ea - e).toNat : Nat)
  let ib : Int := (mb * 2 ^ (eb - e).toNat : Nat)
  let sum := (if na then -ia else ia) + (if nb then -ib else ib)
  if sum = 0 then (fpZero fmt (if na = nb then na else decide (rm = 3#2)), 0#5)
  else fpRound fmt rm enU (decide (sum < 0)) sum.natAbs 1 e

/-- Addition of two values, the second with its sign inverted when `sub`. -/
def fpAddSub (fmt : FpFormat) (op : FpOp) (sub : Bool) (rm : BitVec 2) (enU : Bool) (a b : Nat) : FpResult :=
  match fpUnpack fmt a, fpUnpack fmt b with
  | .nan, _ => fpPropagate fmt op rm a b
  | _, .nan => fpPropagate fmt op rm a b
  | .inf na, .inf nb =>
    if na = (nb ^^ sub) then (fpInf fmt na, 0#5) else fpInvalid fmt op rm a b
  | .inf na, .finite _ _ _ => (fpInf fmt na, 0#5)
  | .finite _ _ _, .inf nb => (fpInf fmt (nb ^^ sub), 0#5)
  | .finite na ma ea, .finite nb mb eb => fpAddFinite fmt rm enU na ma ea (nb ^^ sub) mb eb

/-- `add_fmt`. -/
def fpAdd (fmt : FpFormat) (rm : BitVec 2) (enU : Bool) (a b : Nat) : FpResult :=
  fpAddSub fmt .add false rm enU a b

/-- `sub_fmt`. -/
def fpSub (fmt : FpFormat) (rm : BitVec 2) (enU : Bool) (a b : Nat) : FpResult :=
  fpAddSub fmt .sub true rm enU a b

/-- `mul_fmt`; zero times infinity is invalid. -/
def fpMul (fmt : FpFormat) (rm : BitVec 2) (enU : Bool) (a b : Nat) : FpResult :=
  match fpUnpack fmt a, fpUnpack fmt b with
  | .nan, _ => fpPropagate fmt .mul rm a b
  | _, .nan => fpPropagate fmt .mul rm a b
  | .inf na, .inf nb => (fpInf fmt (na ^^ nb), 0#5)
  | .inf na, .finite nb mb _ => if mb = 0 then fpInvalid fmt .mul rm a b else (fpInf fmt (na ^^ nb), 0#5)
  | .finite na ma _, .inf nb => if ma = 0 then fpInvalid fmt .mul rm a b else (fpInf fmt (na ^^ nb), 0#5)
  | .finite na ma ea, .finite nb mb eb => fpRound fmt rm enU (na ^^ nb) (ma * mb) 1 (ea + eb)

/-- `div_fmt`; zero by zero and infinity by infinity are invalid, a finite non-zero number by zero reports Z. -/
def fpDiv (fmt : FpFormat) (rm : BitVec 2) (enU : Bool) (a b : Nat) : FpResult :=
  match fpUnpack fmt a, fpUnpack fmt b with
  | .nan, _ => fpPropagate fmt .div rm a b
  | _, .nan => fpPropagate fmt .div rm a b
  | .inf _, .inf _ => fpInvalid fmt .div rm a b
  | .inf na, .finite nb _ _ => (fpInf fmt (na ^^ nb), 0#5)
  | .finite na _ _, .inf nb => (fpZero fmt (na ^^ nb), 0#5)
  | .finite na ma ea, .finite nb mb eb =>
    if mb = 0 then
      (if ma = 0 then fpInvalid fmt .div rm a b
       else (fpInf fmt (na ^^ nb), fpFlags false true false false false))
    else fpRound fmt rm enU (na ^^ nb) ma mb (ea - eb)

/-- The largest `r` with `r * r <= n`, bit by bit from bit `k - 1` down. -/
def fpIsqrt (n : Nat) (k acc : Nat) : Nat :=
  match k with
  | 0 => acc
  | k + 1 =>
    let t := acc + 2 ^ k
    fpIsqrt n k (if t * t ≤ n then t else acc)

/-- `sqrt_fmt`: the root of -0 is -0, a negative non-zero operand is invalid. -/
def fpSqrt (fmt : FpFormat) (rm : BitVec 2) (enU : Bool) (a : Nat) : FpResult :=
  match fpUnpack fmt a with
  | .nan => (fpNaN fmt .sqrt rm a 0, fpNaNFlags (fpIsSNaN fmt a))
  | .inf neg => if neg then fpInvalid fmt .sqrt rm a 0 else (fpInf fmt false, 0#5)
  | .finite neg m e =>
    if m = 0 then (fpZero fmt neg, 0#5)
    else if neg then fpInvalid fmt .sqrt rm a 0
    else
      let sh : Nat := 2 * (fmt.fracBits + 3) + (e % 2).toNat
      let n := m * 2 ^ sh
      let root := fpIsqrt n (Nat.log2 n / 2 + 1) 0
      fpRound fmt rm enU false (2 * root + (if root * root = n then 0 else 1)) 1 ((e - (sh : Int)) / 2 - 1)

/-- `cvt` between the two formats (R520). -/
def fpConvert (src dst : FpFormat) (rm : BitVec 2) (enU : Bool) (a : Nat) : FpResult :=
  match fpUnpack src a with
  | .nan => (fpNaN dst .cvt rm a 0, fpNaNFlags (fpIsSNaN src a))
  | .inf neg => (fpInf dst neg, 0#5)
  | .finite neg m e => fpRound dst rm enU neg m 1 e

/-- `cvt` from a signed integer (R520). -/
def fpOfInt (fmt : FpFormat) (rm : BitVec 2) (enU : Bool) (i : Int) : FpResult :=
  fpRound fmt rm enU (decide (i < 0)) i.natAbs 1 0

/-- `toint_X_fmt` to `w` bits (R523): the rounded integer, or the invalid result with V. -/
def fpToInt (fmt : FpFormat) (w : Nat) (invalid : BitVec w) (rm : BitVec 2) (a : Nat) : BitVec w × FpFlags :=
  match fpUnpack fmt a with
  | .finite neg m e =>
    let r := fpRoundAt rm neg m 1 e 0
    let i : Int := if neg then -(r.1 : Int) else (r.1 : Int)
    if -(2 ^ (w - 1) : Int) ≤ i ∧ i ≤ 2 ^ (w - 1) - 1 then
      (BitVec.ofInt w i, fpFlags false false false false r.2)
    else (invalid, fpFlags true false false false false)
  | _ => (invalid, fpFlags true false false false false)

/-- The order of the non-NaN patterns: sign and magnitude as one integer, both zeros 0. -/
def fpKey (fmt : FpFormat) (b : Nat) : Int :=
  if fpSign fmt b then -(fpMagnitude fmt b : Int) else (fpMagnitude fmt b : Int)

/-- `lt_fmt` (R520). -/
def fpLt (fmt : FpFormat) (a b : Nat) : Bool := decide (fpKey fmt a < fpKey fmt b)

/-- `eq_fmt` (R520). -/
def fpEq (fmt : FpFormat) (a b : Nat) : Bool := decide (fpKey fmt a = fpKey fmt b)

/-- Unordered: one of the two is a NaN (R524). -/
def fpUnordered (fmt : FpFormat) (a b : Nat) : Bool := fpIsNaN fmt a || fpIsNaN fmt b

/-- The condition and the exception set of `C.cond.fmt` (R524). -/
def fpCompare (fmt : FpFormat) (cond : BitVec 4) (a b : Nat) : Bool × FpFlags :=
  let un := fpUnordered fmt a b
  (fpCondition cond (!un && fpLt fmt a b) (!un && fpEq fmt a b) un,
    fpFlags ((fpIsSNaN fmt a || fpIsSNaN fmt b) || (cond.getLsbD 3 && un)) false false false false)

end Sys2Proof.Machine
end

