-- ==== Sys2Proof/Machine/LoadStore.lean ====
section
/-! DEFINITION. Loads and stores (spec/45_load_store.md R360 to R388). -/

namespace Sys2Proof.Machine

/-- The effective address of a load or store (R360). -/
def State.ea (s : State) (base : Reg) (offset : BitVec 16) : DWord := effectiveAddress s (s.getX base) offset

/-- The load template: the loaded value, extended by `ext`, goes to `x[rt]` (R361). -/
def loadReg (s : State) (rt : Reg) (va : DWord) (n : Nat) (ext : DWord → DWord) : Result :=
  (load s va n).andThen fun r => .next (s.setX rt (ext r.2))

/-- The store template (R362). -/
def storeReg (s : State) (rt : Reg) (va : DWord) (n : Nat) : Result :=
  (store s va n (s.getX rt)).andThen .next

/-- Sign extension of an `n`-bit loaded value (R361). -/
def sextFrom (n : Nat) (v : DWord) : DWord := (v.setWidth n).signExtend 64

/-- `ALL = 2^(8N) - 1` (R363). -/
def allOnes (n : Nat) : DWord := BitVec.ofNat 64 (2 ^ (8 * n) - 1)

/-- The merge of a left form within `8n` bits (R375, R379). -/
def mergeLeft (n sh : Nat) (old mem : DWord) : DWord :=
  ((old &&& ~~~(allOnes n <<< sh)) ||| (mem <<< sh)) &&& allOnes n

/-- The merge of a right form within `8n` bits (R376, R380). -/
def mergeRight (n sh : Nat) (old mem : DWord) : DWord :=
  ((old &&& ~~~(allOnes n >>> sh)) ||| (mem >>> sh)) &&& allOnes n

/-- A partial load of a left form: the merged value, extended, goes to `x[rt]` (R363). -/
def loadLeft (s : State) (rt : Reg) (va : DWord) (n : Nat) (ext : DWord → DWord) : Result :=
  (partAddr s .load va n).andThen fun a =>
    .next (s.setX rt (ext (mergeLeft n (leftShift s.params.bigEndian n a.2) (s.getX rt)
      (memRead s.params.bigEndian s.mem a.1 n))))

/-- A partial load of a right form (R363). -/
def loadRight (s : State) (rt : Reg) (va : DWord) (n : Nat) (ext : DWord → DWord) : Result :=
  (partAddr s .load va n).andThen fun a =>
    .next (s.setX rt (ext (mergeRight n (rightShift s.params.bigEndian n a.2) (s.getX rt)
      (memRead s.params.bigEndian s.mem a.1 n))))

/-- The bytes a left store writes at the aligned address `a.1` with byte offset `a.2` (R377, R381). -/
def leftCells (s : State) (n : Nat) (a : Nat × Nat) (v : DWord) : List Host.Cell :=
  let sh := leftShift s.params.bigEndian n a.2
  maskedCells s.params.bigEndian a.1 n ((v &&& allOnes n) >>> sh) (allOnes n >>> sh)

/-- The bytes a right store writes (R378, R382). -/
def rightCells (s : State) (n : Nat) (a : Nat × Nat) (v : DWord) : List Host.Cell :=
  let sh := rightShift s.params.bigEndian n a.2
  maskedCells s.params.bigEndian a.1 n ((v <<< sh) &&& allOnes n) ((allOnes n <<< sh) &&& allOnes n)

/-- A partial store of a left form (R363). -/
def storeLeft (s : State) (rt : Reg) (va : DWord) (n : Nat) : Result :=
  (partAddr s .store va n).andThen fun a => .next (s.writeCells (leftCells s n a (s.getX rt)))

/-- A partial store of a right form (R363). -/
def storeRight (s : State) (rt : Reg) (va : DWord) (n : Nat) : Result :=
  (partAddr s .store va n).andThen fun a => .next (s.writeCells (rightCells s n a (s.getX rt)))

/-- Load linked: the load, the register, then the observer on the translated address (R383, R141). -/
def loadLinked (s : State) (rt : Reg) (va : DWord) (n : Nat) (ext : DWord → DWord) : Result :=
  (load s va n).andThen fun r => .next ((s.setX rt (ext r.2)).installObserver r.1)

/-- Store conditional: the observer is consumed before the store, and stays consumed when the store raises; not
installed, it writes 0 and does nothing else (R385, D14). -/
def storeConditional (s : State) (rt : Reg) (va : DWord) (n : Nat) : Result :=
  if s.llbit then
    (store { s with llbit := false } va n (s.getX rt)).andThen fun t => .next (t.setX rt 1#64)
  else .next (s.setX rt 0#64)

/-- LB: sign-extended load of 1 byte (R364). -/
def execLb (rt : Reg) (base : Reg) (offset : BitVec 16) (s : State) : Result :=
  loadReg s rt (s.ea base offset) 1 (sextFrom 8)

/-- LBU: zero-extended load of 1 byte (R365). -/
def execLbu (rt : Reg) (base : Reg) (offset : BitVec 16) (s : State) : Result :=
  loadReg s rt (s.ea base offset) 1 id

/-- LH: sign-extended load of 2 bytes (R366). -/
def execLh (rt : Reg) (base : Reg) (offset : BitVec 16) (s : State) : Result :=
  loadReg s rt (s.ea base offset) 2 (sextFrom 16)

/-- LHU: zero-extended load of 2 bytes (R367). -/
def execLhu (rt : Reg) (base : Reg) (offset : BitVec 16) (s : State) : Result :=
  loadReg s rt (s.ea base offset) 2 id

/-- LW: sign-extended load of 4 bytes (R368). -/
def execLw (rt : Reg) (base : Reg) (offset : BitVec 16) (s : State) : Result :=
  loadReg s rt (s.ea base offset) 4 (sextFrom 32)

/-- LWU: zero-extended load of 4 bytes; RI without Ops64 (R369). -/
def execLwu (rt : Reg) (base : Reg) (offset : BitVec 16) (s : State) : Result :=
  guardOps64 s (loadReg s rt (s.ea base offset) 4 id)

/-- LD: load of 8 bytes; RI without Ops64 (R370). -/
def execLd (rt : Reg) (base : Reg) (offset : BitVec 16) (s : State) : Result :=
  guardOps64 s (loadReg s rt (s.ea base offset) 8 id)

/-- SB: store of the low 1 byte (R371). -/
def execSb (rt : Reg) (base : Reg) (offset : BitVec 16) (s : State) : Result :=
  storeReg s rt (s.ea base offset) 1

/-- SH: store of the low 2 bytes (R372). -/
def execSh (rt : Reg) (base : Reg) (offset : BitVec 16) (s : State) : Result :=
  storeReg s rt (s.ea base offset) 2

/-- SW: store of the low 4 bytes (R373). -/
def execSw (rt : Reg) (base : Reg) (offset : BitVec 16) (s : State) : Result :=
  storeReg s rt (s.ea base offset) 4

/-- SD: store of the low 8 bytes; RI without Ops64 (R374). -/
def execSd (rt : Reg) (base : Reg) (offset : BitVec 16) (s : State) : Result :=
  guardOps64 s (storeReg s rt (s.ea base offset) 8)

/-- LWL: load word left (R375). -/
def execLwl (rt : Reg) (base : Reg) (offset : BitVec 16) (s : State) : Result :=
  loadLeft s rt (s.ea base offset) 4 sext32to64

/-- LWR: load word right (R376). -/
def execLwr (rt : Reg) (base : Reg) (offset : BitVec 16) (s : State) : Result :=
  loadRight s rt (s.ea base offset) 4 sext32to64

/-- SWL: store word left (R377). -/
def execSwl (rt : Reg) (base : Reg) (offset : BitVec 16) (s : State) : Result :=
  storeLeft s rt (s.ea base offset) 4

/-- SWR: store word right (R378). -/
def execSwr (rt : Reg) (base : Reg) (offset : BitVec 16) (s : State) : Result :=
  storeRight s rt (s.ea base offset) 4

/-- LDL: load doubleword left; RI without Ops64 (R379). -/
def execLdl (rt : Reg) (base : Reg) (offset : BitVec 16) (s : State) : Result :=
  guardOps64 s (loadLeft s rt (s.ea base offset) 8 id)

/-- LDR: load doubleword right; RI without Ops64 (R380). -/
def execLdr (rt : Reg) (base : Reg) (offset : BitVec 16) (s : State) : Result :=
  guardOps64 s (loadRight s rt (s.ea base offset) 8 id)

/-- SDL: store doubleword left; RI without Ops64 (R381). -/
def execSdl (rt : Reg) (base : Reg) (offset : BitVec 16) (s : State) : Result :=
  guardOps64 s (storeLeft s rt (s.ea base offset) 8)

/-- SDR: store doubleword right; RI without Ops64 (R382). -/
def execSdr (rt : Reg) (base : Reg) (offset : BitVec 16) (s : State) : Result :=
  guardOps64 s (storeRight s rt (s.ea base offset) 8)

/-- LL: load linked word, sign-extended (R383). -/
def execLl (rt : Reg) (base : Reg) (offset : BitVec 16) (s : State) : Result :=
  loadLinked s rt (s.ea base offset) 4 (sextFrom 32)

/-- LLD: load linked doubleword; RI without Ops64 (R384). -/
def execLld (rt : Reg) (base : Reg) (offset : BitVec 16) (s : State) : Result :=
  guardOps64 s (loadLinked s rt (s.ea base offset) 8 id)

/-- SC: store conditional word (R385). -/
def execSc (rt : Reg) (base : Reg) (offset : BitVec 16) (s : State) : Result :=
  storeConditional s rt (s.ea base offset) 4

/-- SCD: store conditional doubleword; RI without Ops64 (R386). -/
def execScd (rt : Reg) (base : Reg) (offset : BitVec 16) (s : State) : Result :=
  guardOps64 s (storeConditional s rt (s.ea base offset) 8)

end Sys2Proof.Machine
end

