-- ==== Sys2Proof/Machine/FpuBasic.lean ====
section
/-! DEFINITION. Coprocessor-1 moves, branches, loads and stores (spec/48_fpu_basic.md R480 to R497). -/

namespace Sys2Proof.Machine

/-- What `CFC1` reads: FCR0, FCR31, and 0 for every other number (R486, D43). -/
def State.readFcr (s : State) (n : CReg) : Word :=
  if n.val = 0 then s.params.fcr0 else if n.val = 31 then s.fcr31 else 0#32

/-- The effect of `CTC1` on a state where coprocessor 1 is usable: FCR31 keeps its writable bits and FPE follows
when a Cause bit with its Enable bit, or Cause E, is written; other numbers change nothing (R489). -/
def State.writeFcr (s : State) (n : CReg) (v : Word) : State :=
  if n.val = 31 then
    let t : State := { s with fcr31 := v &&& fcr31Mask }
    if fcrRaises t.fcr31 then t.raise .fpe else t
  else s

/-- The condition bit FCR31.C. -/
def State.fpc (s : State) : Bool := fcrC s.fcr31

/-- MFC1: `x[rt] <- sext_64(ReadF32(fs))`; CpU(1) (R484). -/
def execMfc1 (rt : Reg) (fs : FReg) (s : State) : Result :=
  guardCp1 s (.next (s.setX rt ((s.readF32 fs).signExtend 64)))

/-- DMFC1: `x[rt] <- ReadF64(fs)`; CpU(1), then RI without Ops64 (R485). -/
def execDmfc1 (rt : Reg) (fs : FReg) (s : State) : Result :=
  guardCp1 s (guardOps64 s (withF64 s fs fun v => .next (s.setX rt v)))

/-- CFC1: a control register, sign-extended; CpU(1) (R486). -/
def execCfc1 (rt : Reg) (fs : CReg) (s : State) : Result :=
  guardCp1 s (.next (s.setX rt ((s.readFcr fs).signExtend 64)))

/-- MTC1: `WriteF32(fs, x[rt][31:0])`; CpU(1) (R487). -/
def execMtc1 (rt : Reg) (fs : FReg) (s : State) : Result :=
  guardCp1 s (.next (s.writeF32 fs (low32 (s.getX rt))))

/-- DMTC1: `WriteF64(fs, x[rt])`; CpU(1), then RI without Ops64 (R488). -/
def execDmtc1 (rt : Reg) (fs : FReg) (s : State) : Result :=
  guardCp1 s (guardOps64 s (commitF64 s fs (s.getX rt)))

/-- CTC1: a control register is written, FPE at once when it asks for one; CpU(1) (R489). -/
def execCtc1 (rt : Reg) (fs : CReg) (s : State) : Result :=
  guardCp1 s (.next (s.writeFcr fs (low32 (s.getX rt))))

/-- BC1F: branch when FCR31.C = 0; CpU(1) (R490). -/
def execBc1f (offset : BitVec 16) (s : State) : Result :=
  guardCp1 s (.next (s.branchIf (!s.fpc) (branchTarget s offset)))

/-- BC1T: branch when FCR31.C = 1; CpU(1) (R491). -/
def execBc1t (offset : BitVec 16) (s : State) : Result :=
  guardCp1 s (.next (s.branchIf s.fpc (branchTarget s offset)))

/-- BC1FL: likely branch when FCR31.C = 0; CpU(1) (R492). -/
def execBc1fl (offset : BitVec 16) (s : State) : Result :=
  guardCp1 s (.next (s.branchLikely (!s.fpc) (branchTarget s offset)))

/-- BC1TL: likely branch when FCR31.C = 1; CpU(1) (R493). -/
def execBc1tl (offset : BitVec 16) (s : State) : Result :=
  guardCp1 s (.next (s.branchLikely s.fpc (branchTarget s offset)))

/-- LWC1: `WriteF32(ft, Load(EA, 4))`; CpU(1) (R494). -/
def execLwc1 (ft : FReg) (base : Reg) (offset : BitVec 16) (s : State) : Result :=
  guardCp1 s ((load s (s.ea base offset) 4).andThen fun r => .next (s.writeF32 ft (low32 r.2)))

/-- LDC1: `WriteF64(ft, Load(EA, 8))`; CpU(1) (R495). -/
def execLdc1 (ft : FReg) (base : Reg) (offset : BitVec 16) (s : State) : Result :=
  guardCp1 s ((load s (s.ea base offset) 8).andThen fun r => commitF64 s ft r.2)

/-- SWC1: `Store(EA, 4, ReadF32(ft))`; CpU(1) (R496). -/
def execSwc1 (ft : FReg) (base : Reg) (offset : BitVec 16) (s : State) : Result :=
  guardCp1 s ((store s (s.ea base offset) 4 ((s.readF32 ft).setWidth 64)).andThen .next)

/-- SDC1: `Store(EA, 8, ReadF64(ft))`; CpU(1) (R497). -/
def execSdc1 (ft : FReg) (base : Reg) (offset : BitVec 16) (s : State) : Result :=
  guardCp1 s (withF64 s ft fun v => (store s (s.ea base offset) 8 v).andThen .next)

end Sys2Proof.Machine
end

