-- ==== Sys2Proof/Machine/FpuArith.lean ====
section
/-! DEFINITION. Floating-point arithmetic and conversions (spec/49_fpu_arith.md R520 to R566; spec/48_fpu_basic.md R482). -/

namespace Sys2Proof.Machine

/-- `FpFinish(fl, commit)` (R482): Cause is overwritten; an enabled flag raises FPE and nothing else changes;
otherwise the flags accumulate and the commit happens. -/
def fpFinish (s : State) (fl : FpFlags) (commit : State → Result) : Result :=
  let cause := fcrSetCause s.fcr31 fl
  if fl &&& fcrEnable s.fcr31 ≠ 0#5 then .next ({ s with fcr31 := cause }.raise .fpe)
  else commit { s with fcr31 := fcrOrFlag cause fl }

/-- FCR31.RM, the current rounding mode (R522). -/
def State.rm (s : State) : BitVec 2 := s.fcr31.extractLsb' 0 2

/-- The underflow enable, which the library may look at (R520, D39). -/
def State.enableU (s : State) : Bool := s.fcr31.getLsbD 8

/-- A library operation of two operands: rounding mode, underflow enable, the two patterns. -/
abbrev FpBinary := BitVec 2 → Bool → Nat → Nat → FpResult

/-- A library operation of one operand. -/
abbrev FpUnary := BitVec 2 → Bool → Nat → FpResult

/-- Write a 32-bit result. -/
def commitS (fd : FReg) (bits : Nat) (t : State) : Result := .next (t.writeF32 fd (BitVec.ofNat 32 bits))

/-- Write a 64-bit result. -/
def commitD (fd : FReg) (bits : Nat) (t : State) : Result := commitF64 t fd (BitVec.ofNat 64 bits)

/-- `Binary(op, S)` (R521). -/
def binaryS (op : FpBinary) (fd fs ft : FReg) (s : State) : Result :=
  guardCp1 s <|
    let r := op s.rm s.enableU (s.readF32 fs).toNat (s.readF32 ft).toNat
    fpFinish s r.2 (commitS fd r.1)

/-- `Binary(op, D)` (R521). -/
def binaryD (op : FpBinary) (fd fs ft : FReg) (s : State) : Result :=
  guardCp1 s <| withF64 s fs fun a => withF64 s ft fun b =>
    let r := op s.rm s.enableU a.toNat b.toNat
    fpFinish s r.2 (commitD fd r.1)

/-- A unary operation from a 32-bit source to a 32-bit result (R521). -/
def unarySS (op : FpUnary) (fd fs : FReg) (s : State) : Result :=
  guardCp1 s <|
    let r := op s.rm s.enableU (s.readF32 fs).toNat
    fpFinish s r.2 (commitS fd r.1)

/-- A unary operation from a 32-bit source to a 64-bit result (R521). -/
def unarySD (op : FpUnary) (fd fs : FReg) (s : State) : Result :=
  guardCp1 s <|
    let r := op s.rm s.enableU (s.readF32 fs).toNat
    fpFinish s r.2 (commitD fd r.1)

/-- A unary operation from a 64-bit source to a 32-bit result (R521). -/
def unaryDS (op : FpUnary) (fd fs : FReg) (s : State) : Result :=
  guardCp1 s <| withF64 s fs fun a =>
    let r := op s.rm s.enableU a.toNat
    fpFinish s r.2 (commitS fd r.1)

/-- A unary operation from a 64-bit source to a 64-bit result (R521). -/
def unaryDD (op : FpUnary) (fd fs : FReg) (s : State) : Result :=
  guardCp1 s <| withF64 s fs fun a =>
    let r := op s.rm s.enableU a.toNat
    fpFinish s r.2 (commitD fd r.1)

/-- `toint_W_fmt` as an operation on patterns, the invalid result the parameter's (R523). -/
def toIntW (s : State) (fmt : FpFormat) (rm : BitVec 2) (a : Nat) : FpResult :=
  let r := fpToInt fmt 32 s.params.invalidW rm a
  (r.1.toNat, r.2)

/-- `toint_L_fmt` as an operation on patterns (R523). -/
def toIntL (s : State) (fmt : FpFormat) (rm : BitVec 2) (a : Nat) : FpResult :=
  let r := fpToInt fmt 64 s.params.invalidL rm a
  (r.1.toNat, r.2)

/-- The signed integer of a 32-bit pattern. -/
def signedW (a : Nat) : Int := (BitVec.ofNat 32 a).toInt

/-- The signed integer of a 64-bit pattern. -/
def signedL (a : Nat) : Int := (BitVec.ofNat 64 a).toInt

/-- ADD.S: `Binary(add, S)` (R525). -/
def execAddS (fd : FReg) (fs : FReg) (ft : FReg) (s : State) : Result :=
  binaryS (fpAdd fmtS) fd fs ft s

/-- ADD.D: `Binary(add, D)` (R526). -/
def execAddD (fd : FReg) (fs : FReg) (ft : FReg) (s : State) : Result :=
  binaryD (fpAdd fmtD) fd fs ft s

/-- SUB.S: `Binary(sub, S)` (R527). -/
def execSubS (fd : FReg) (fs : FReg) (ft : FReg) (s : State) : Result :=
  binaryS (fpSub fmtS) fd fs ft s

/-- SUB.D: `Binary(sub, D)` (R528). -/
def execSubD (fd : FReg) (fs : FReg) (ft : FReg) (s : State) : Result :=
  binaryD (fpSub fmtD) fd fs ft s

/-- MUL.S: `Binary(mul, S)` (R529). -/
def execMulS (fd : FReg) (fs : FReg) (ft : FReg) (s : State) : Result :=
  binaryS (fpMul fmtS) fd fs ft s

/-- MUL.D: `Binary(mul, D)` (R530). -/
def execMulD (fd : FReg) (fs : FReg) (ft : FReg) (s : State) : Result :=
  binaryD (fpMul fmtD) fd fs ft s

/-- DIV.S: `Binary(div, S)` (R531). -/
def execDivS (fd : FReg) (fs : FReg) (ft : FReg) (s : State) : Result :=
  binaryS (fpDiv fmtS) fd fs ft s

/-- DIV.D: `Binary(div, D)` (R532). -/
def execDivD (fd : FReg) (fs : FReg) (ft : FReg) (s : State) : Result :=
  binaryD (fpDiv fmtD) fd fs ft s

/-- SQRT.S: `Unary(sqrt, S)` (R533). -/
def execSqrtS (fd : FReg) (fs : FReg) (s : State) : Result :=
  unarySS (fpSqrt fmtS) fd fs s

/-- SQRT.D: `Unary(sqrt, D)` (R534). -/
def execSqrtD (fd : FReg) (fs : FReg) (s : State) : Result :=
  unaryDD (fpSqrt fmtD) fd fs s

/-- ABS.S: the pattern with its sign cleared; FCR31 unchanged (R535, D41). -/
def execAbsS (fd : FReg) (fs : FReg) (s : State) : Result :=
  guardCp1 s (.next (s.writeF32 fd (s.readF32 fs &&& 0x7FFFFFFF#32)))

/-- ABS.D: the pattern with its sign cleared; FCR31 unchanged (R536, D41). -/
def execAbsD (fd : FReg) (fs : FReg) (s : State) : Result :=
  guardCp1 s (withF64 s fs fun v => commitF64 s fd (v &&& 0x7FFFFFFFFFFFFFFF#64))

/-- MOV.S: a copy of the pattern; FCR31 unchanged (R537, D41). -/
def execMovS (fd : FReg) (fs : FReg) (s : State) : Result :=
  guardCp1 s (.next (s.writeF32 fd (s.readF32 fs)))

/-- MOV.D: a copy of the pattern; FCR31 unchanged (R538, D41). -/
def execMovD (fd : FReg) (fs : FReg) (s : State) : Result :=
  guardCp1 s (withF64 s fs fun v => commitF64 s fd (v))

/-- NEG.S: the pattern with its sign inverted; FCR31 unchanged (R539, D41). -/
def execNegS (fd : FReg) (fs : FReg) (s : State) : Result :=
  guardCp1 s (.next (s.writeF32 fd (s.readF32 fs ^^^ 0x80000000#32)))

/-- NEG.D: the pattern with its sign inverted; FCR31 unchanged (R540, D41). -/
def execNegD (fd : FReg) (fs : FReg) (s : State) : Result :=
  guardCp1 s (withF64 s fs fun v => commitF64 s fd (v ^^^ 0x8000000000000000#64))

/-- ROUND.L.S: `toint_L_S` with the fixed mode RN (R541). -/
def execRoundLS (fd : FReg) (fs : FReg) (s : State) : Result :=
  unarySD (fun _ _ a => toIntL s fmtS 0#2 a) fd fs s

/-- ROUND.L.D: `toint_L_D` with the fixed mode RN (R542). -/
def execRoundLD (fd : FReg) (fs : FReg) (s : State) : Result :=
  unaryDD (fun _ _ a => toIntL s fmtD 0#2 a) fd fs s

/-- TRUNC.L.S: `toint_L_S` with the fixed mode RZ (R543). -/
def execTruncLS (fd : FReg) (fs : FReg) (s : State) : Result :=
  unarySD (fun _ _ a => toIntL s fmtS 1#2 a) fd fs s

/-- TRUNC.L.D: `toint_L_D` with the fixed mode RZ (R544). -/
def execTruncLD (fd : FReg) (fs : FReg) (s : State) : Result :=
  unaryDD (fun _ _ a => toIntL s fmtD 1#2 a) fd fs s

/-- CEIL.L.S: `toint_L_S` with the fixed mode RP (R545). -/
def execCeilLS (fd : FReg) (fs : FReg) (s : State) : Result :=
  unarySD (fun _ _ a => toIntL s fmtS 2#2 a) fd fs s

/-- CEIL.L.D: `toint_L_D` with the fixed mode RP (R546). -/
def execCeilLD (fd : FReg) (fs : FReg) (s : State) : Result :=
  unaryDD (fun _ _ a => toIntL s fmtD 2#2 a) fd fs s

/-- FLOOR.L.S: `toint_L_S` with the fixed mode RM (R547). -/
def execFloorLS (fd : FReg) (fs : FReg) (s : State) : Result :=
  unarySD (fun _ _ a => toIntL s fmtS 3#2 a) fd fs s

/-- FLOOR.L.D: `toint_L_D` with the fixed mode RM (R548). -/
def execFloorLD (fd : FReg) (fs : FReg) (s : State) : Result :=
  unaryDD (fun _ _ a => toIntL s fmtD 3#2 a) fd fs s

/-- ROUND.W.S: `toint_W_S` with the fixed mode RN (R549). -/
def execRoundWS (fd : FReg) (fs : FReg) (s : State) : Result :=
  unarySS (fun _ _ a => toIntW s fmtS 0#2 a) fd fs s

/-- ROUND.W.D: `toint_W_D` with the fixed mode RN (R550). -/
def execRoundWD (fd : FReg) (fs : FReg) (s : State) : Result :=
  unaryDS (fun _ _ a => toIntW s fmtD 0#2 a) fd fs s

/-- TRUNC.W.S: `toint_W_S` with the fixed mode RZ (R551). -/
def execTruncWS (fd : FReg) (fs : FReg) (s : State) : Result :=
  unarySS (fun _ _ a => toIntW s fmtS 1#2 a) fd fs s

/-- TRUNC.W.D: `toint_W_D` with the fixed mode RZ (R552). -/
def execTruncWD (fd : FReg) (fs : FReg) (s : State) : Result :=
  unaryDS (fun _ _ a => toIntW s fmtD 1#2 a) fd fs s

/-- CEIL.W.S: `toint_W_S` with the fixed mode RP (R553). -/
def execCeilWS (fd : FReg) (fs : FReg) (s : State) : Result :=
  unarySS (fun _ _ a => toIntW s fmtS 2#2 a) fd fs s

/-- CEIL.W.D: `toint_W_D` with the fixed mode RP (R554). -/
def execCeilWD (fd : FReg) (fs : FReg) (s : State) : Result :=
  unaryDS (fun _ _ a => toIntW s fmtD 2#2 a) fd fs s

/-- FLOOR.W.S: `toint_W_S` with the fixed mode RM (R555). -/
def execFloorWS (fd : FReg) (fs : FReg) (s : State) : Result :=
  unarySS (fun _ _ a => toIntW s fmtS 3#2 a) fd fs s

/-- FLOOR.W.D: `toint_W_D` with the fixed mode RM (R556). -/
def execFloorWD (fd : FReg) (fs : FReg) (s : State) : Result :=
  unaryDS (fun _ _ a => toIntW s fmtD 3#2 a) fd fs s

/-- CVT.S.D: binary64 to binary32 (R557). -/
def execCvtSD (fd : FReg) (fs : FReg) (s : State) : Result :=
  unaryDS (fpConvert fmtD fmtS) fd fs s

/-- CVT.S.W: signed word to binary32 (R558). -/
def execCvtSW (fd : FReg) (fs : FReg) (s : State) : Result :=
  unarySS (fun rm u a => fpOfInt fmtS rm u (signedW a)) fd fs s

/-- CVT.S.L: signed doubleword to binary32 (R559). -/
def execCvtSL (fd : FReg) (fs : FReg) (s : State) : Result :=
  unaryDS (fun rm u a => fpOfInt fmtS rm u (signedL a)) fd fs s

/-- CVT.D.S: binary32 to binary64, exact (R560). -/
def execCvtDS (fd : FReg) (fs : FReg) (s : State) : Result :=
  unarySD (fpConvert fmtS fmtD) fd fs s

/-- CVT.D.W: signed word to binary64, exact (R561). -/
def execCvtDW (fd : FReg) (fs : FReg) (s : State) : Result :=
  unarySD (fun rm u a => fpOfInt fmtD rm u (signedW a)) fd fs s

/-- CVT.D.L: signed doubleword to binary64 (R562). -/
def execCvtDL (fd : FReg) (fs : FReg) (s : State) : Result :=
  unaryDD (fun rm u a => fpOfInt fmtD rm u (signedL a)) fd fs s

/-- CVT.W.S: `toint_W_S` with the current mode (R563). -/
def execCvtWS (fd : FReg) (fs : FReg) (s : State) : Result :=
  unarySS (fun rm _ a => toIntW s fmtS rm a) fd fs s

/-- CVT.W.D: `toint_W_D` with the current mode (R564). -/
def execCvtWD (fd : FReg) (fs : FReg) (s : State) : Result :=
  unaryDS (fun rm _ a => toIntW s fmtD rm a) fd fs s

/-- CVT.L.S: `toint_L_S` with the current mode (R565). -/
def execCvtLS (fd : FReg) (fs : FReg) (s : State) : Result :=
  unarySD (fun rm _ a => toIntL s fmtS rm a) fd fs s

/-- CVT.L.D: `toint_L_D` with the current mode (R566). -/
def execCvtLD (fd : FReg) (fs : FReg) (s : State) : Result :=
  unaryDD (fun rm _ a => toIntL s fmtD rm a) fd fs s

end Sys2Proof.Machine
end

