-- ==== Sys2Proof/Machine/FpuCompare.lean ====
section
/-! DEFINITION. Floating-point comparisons (spec/49_fpu_arith.md R524, R567 to R598). -/

namespace Sys2Proof.Machine

/-- The commit of a comparison: FCR31.C (R524). -/
def commitC (c : Bool) (t : State) : Result := .next { t with fcr31 := fcrSetC t.fcr31 c }

/-- `C.cond.S` (R524). -/
def compareS (cond : BitVec 4) (fs ft : FReg) (s : State) : Result :=
  guardCp1 s <|
    let r := fpCompare fmtS cond (s.readF32 fs).toNat (s.readF32 ft).toNat
    fpFinish s r.2 (commitC r.1)

/-- `C.cond.D` (R524). -/
def compareD (cond : BitVec 4) (fs ft : FReg) (s : State) : Result :=
  guardCp1 s <| withF64 s fs fun a => withF64 s ft fun b =>
    let r := fpCompare fmtD cond a.toNat b.toNat
    fpFinish s r.2 (commitC r.1)

/-- C.F.S: the condition 0, F (R567). -/
def execCFS (fs : FReg) (ft : FReg) (s : State) : Result :=
  compareS 0#4 fs ft s

/-- C.F.D: the condition 0, F (R568). -/
def execCFD (fs : FReg) (ft : FReg) (s : State) : Result :=
  compareD 0#4 fs ft s

/-- C.UN.S: the condition 1, UN (R569). -/
def execCUnS (fs : FReg) (ft : FReg) (s : State) : Result :=
  compareS 1#4 fs ft s

/-- C.UN.D: the condition 1, UN (R570). -/
def execCUnD (fs : FReg) (ft : FReg) (s : State) : Result :=
  compareD 1#4 fs ft s

/-- C.EQ.S: the condition 2, EQ (R571). -/
def execCEqS (fs : FReg) (ft : FReg) (s : State) : Result :=
  compareS 2#4 fs ft s

/-- C.EQ.D: the condition 2, EQ (R572). -/
def execCEqD (fs : FReg) (ft : FReg) (s : State) : Result :=
  compareD 2#4 fs ft s

/-- C.UEQ.S: the condition 3, UEQ (R573). -/
def execCUeqS (fs : FReg) (ft : FReg) (s : State) : Result :=
  compareS 3#4 fs ft s

/-- C.UEQ.D: the condition 3, UEQ (R574). -/
def execCUeqD (fs : FReg) (ft : FReg) (s : State) : Result :=
  compareD 3#4 fs ft s

/-- C.OLT.S: the condition 4, OLT (R575). -/
def execCOltS (fs : FReg) (ft : FReg) (s : State) : Result :=
  compareS 4#4 fs ft s

/-- C.OLT.D: the condition 4, OLT (R576). -/
def execCOltD (fs : FReg) (ft : FReg) (s : State) : Result :=
  compareD 4#4 fs ft s

/-- C.ULT.S: the condition 5, ULT (R577). -/
def execCUltS (fs : FReg) (ft : FReg) (s : State) : Result :=
  compareS 5#4 fs ft s

/-- C.ULT.D: the condition 5, ULT (R578). -/
def execCUltD (fs : FReg) (ft : FReg) (s : State) : Result :=
  compareD 5#4 fs ft s

/-- C.OLE.S: the condition 6, OLE (R579). -/
def execCOleS (fs : FReg) (ft : FReg) (s : State) : Result :=
  compareS 6#4 fs ft s

/-- C.OLE.D: the condition 6, OLE (R580). -/
def execCOleD (fs : FReg) (ft : FReg) (s : State) : Result :=
  compareD 6#4 fs ft s

/-- C.ULE.S: the condition 7, ULE (R581). -/
def execCUleS (fs : FReg) (ft : FReg) (s : State) : Result :=
  compareS 7#4 fs ft s

/-- C.ULE.D: the condition 7, ULE (R582). -/
def execCUleD (fs : FReg) (ft : FReg) (s : State) : Result :=
  compareD 7#4 fs ft s

/-- C.SF.S: the condition 8, SF (R583). -/
def execCSfS (fs : FReg) (ft : FReg) (s : State) : Result :=
  compareS 8#4 fs ft s

/-- C.SF.D: the condition 8, SF (R584). -/
def execCSfD (fs : FReg) (ft : FReg) (s : State) : Result :=
  compareD 8#4 fs ft s

/-- C.NGLE.S: the condition 9, NGLE (R585). -/
def execCNgleS (fs : FReg) (ft : FReg) (s : State) : Result :=
  compareS 9#4 fs ft s

/-- C.NGLE.D: the condition 9, NGLE (R586). -/
def execCNgleD (fs : FReg) (ft : FReg) (s : State) : Result :=
  compareD 9#4 fs ft s

/-- C.SEQ.S: the condition 10, SEQ (R587). -/
def execCSeqS (fs : FReg) (ft : FReg) (s : State) : Result :=
  compareS 10#4 fs ft s

/-- C.SEQ.D: the condition 10, SEQ (R588). -/
def execCSeqD (fs : FReg) (ft : FReg) (s : State) : Result :=
  compareD 10#4 fs ft s

/-- C.NGL.S: the condition 11, NGL (R589). -/
def execCNglS (fs : FReg) (ft : FReg) (s : State) : Result :=
  compareS 11#4 fs ft s

/-- C.NGL.D: the condition 11, NGL (R590). -/
def execCNglD (fs : FReg) (ft : FReg) (s : State) : Result :=
  compareD 11#4 fs ft s

/-- C.LT.S: the condition 12, LT (R591). -/
def execCLtS (fs : FReg) (ft : FReg) (s : State) : Result :=
  compareS 12#4 fs ft s

/-- C.LT.D: the condition 12, LT (R592). -/
def execCLtD (fs : FReg) (ft : FReg) (s : State) : Result :=
  compareD 12#4 fs ft s

/-- C.NGE.S: the condition 13, NGE (R593). -/
def execCNgeS (fs : FReg) (ft : FReg) (s : State) : Result :=
  compareS 13#4 fs ft s

/-- C.NGE.D: the condition 13, NGE (R594). -/
def execCNgeD (fs : FReg) (ft : FReg) (s : State) : Result :=
  compareD 13#4 fs ft s

/-- C.LE.S: the condition 14, LE (R595). -/
def execCLeS (fs : FReg) (ft : FReg) (s : State) : Result :=
  compareS 14#4 fs ft s

/-- C.LE.D: the condition 14, LE (R596). -/
def execCLeD (fs : FReg) (ft : FReg) (s : State) : Result :=
  compareD 14#4 fs ft s

/-- C.NGT.S: the condition 15, NGT (R597). -/
def execCNgtS (fs : FReg) (ft : FReg) (s : State) : Result :=
  compareS 15#4 fs ft s

/-- C.NGT.D: the condition 15, NGT (R598). -/
def execCNgtD (fs : FReg) (ft : FReg) (s : State) : Result :=
  compareD 15#4 fs ft s

end Sys2Proof.Machine
end

