-- ==== Sys2Proof/Machine/IntegerAlu.lean ====
section
/-! DEFINITION. Integer arithmetic, logic and comparison (spec/41_integer_alu.md R240 to R264). -/

namespace Sys2Proof.Machine

/-- The end of a trapping operation: Ov with the destination unmodified, or the result (R240 (d)). -/
def overflowOr (s : State) (overflow : Bool) (r : Reg) (v : DWord) : Result :=
  .next (if overflow then s.raise .ov else s.setX r v)

/-- The 64-bit value of a comparison: 1 or 0 (R253). -/
def boolWord (b : Bool) : DWord := if b then 1#64 else 0#64

/-- ADD: `x[rd] <- sext_64(x[rs][31:0] + x[rt][31:0])`, Ov on signed overflow (R241). -/
def execAdd (rd : Reg) (rs : Reg) (rt : Reg) (s : State) : Result :=
  let a := low32 (s.getX rs)
  let b := low32 (s.getX rt)
  overflowOr s (addOvf32 a b) rd ((a + b).signExtend 64)

/-- ADDU: the sum of the low words, sign-extended, no trap (R242). -/
def execAddu (rd : Reg) (rs : Reg) (rt : Reg) (s : State) : Result :=
  .next (s.setX rd ((low32 (s.getX rs) + low32 (s.getX rt)).signExtend 64))

/-- SUB: the difference of the low words, Ov on signed overflow (R243). -/
def execSub (rd : Reg) (rs : Reg) (rt : Reg) (s : State) : Result :=
  let a := low32 (s.getX rs)
  let b := low32 (s.getX rt)
  overflowOr s (subOvf32 a b) rd ((a - b).signExtend 64)

/-- SUBU: the difference of the low words, sign-extended, no trap (R244). -/
def execSubu (rd : Reg) (rs : Reg) (rt : Reg) (s : State) : Result :=
  .next (s.setX rd ((low32 (s.getX rs) - low32 (s.getX rt)).signExtend 64))

/-- DADD: the 64-bit sum; RI without Ops64, Ov on signed overflow (R245). -/
def execDadd (rd : Reg) (rs : Reg) (rt : Reg) (s : State) : Result :=
  guardOps64 s <|
    let a := s.getX rs
    let b := s.getX rt
    overflowOr s (addOvf64 a b) rd (a + b)

/-- DADDU: the 64-bit sum; RI without Ops64 (R246). -/
def execDaddu (rd : Reg) (rs : Reg) (rt : Reg) (s : State) : Result :=
  guardOps64 s (.next (s.setX rd (s.getX rs + s.getX rt)))

/-- DSUB: the 64-bit difference; RI without Ops64, Ov on signed overflow (R247). -/
def execDsub (rd : Reg) (rs : Reg) (rt : Reg) (s : State) : Result :=
  guardOps64 s <|
    let a := s.getX rs
    let b := s.getX rt
    overflowOr s (subOvf64 a b) rd (a - b)

/-- DSUBU: the 64-bit difference; RI without Ops64 (R248). -/
def execDsubu (rd : Reg) (rs : Reg) (rt : Reg) (s : State) : Result :=
  guardOps64 s (.next (s.setX rd (s.getX rs - s.getX rt)))

/-- AND: bitwise and of 64 bits (R249). -/
def execAnd (rd : Reg) (rs : Reg) (rt : Reg) (s : State) : Result :=
  .next (s.setX rd (s.getX rs &&& s.getX rt))

/-- OR: bitwise or of 64 bits (R250). -/
def execOr (rd : Reg) (rs : Reg) (rt : Reg) (s : State) : Result :=
  .next (s.setX rd (s.getX rs ||| s.getX rt))

/-- XOR: bitwise exclusive or of 64 bits (R251). -/
def execXor (rd : Reg) (rs : Reg) (rt : Reg) (s : State) : Result :=
  .next (s.setX rd (s.getX rs ^^^ s.getX rt))

/-- NOR: the complement of the bitwise or, 64 bits (R252). -/
def execNor (rd : Reg) (rs : Reg) (rt : Reg) (s : State) : Result :=
  .next (s.setX rd (~~~(s.getX rs ||| s.getX rt)))

/-- SLT: 1 when `x[rs] < x[rt]` as signed 64-bit numbers, else 0 (R253). -/
def execSlt (rd : Reg) (rs : Reg) (rt : Reg) (s : State) : Result :=
  .next (s.setX rd (boolWord ((s.getX rs).slt (s.getX rt))))

/-- SLTU: 1 when `x[rs] < x[rt]` as unsigned 64-bit numbers, else 0 (R254). -/
def execSltu (rd : Reg) (rs : Reg) (rt : Reg) (s : State) : Result :=
  .next (s.setX rd (boolWord ((s.getX rs).ult (s.getX rt))))

/-- ADDI: the sum of the low word and the sign-extended immediate, Ov on signed overflow (R255). -/
def execAddi (rt : Reg) (rs : Reg) (imm : BitVec 16) (s : State) : Result :=
  let a := low32 (s.getX rs)
  let b := sextImm32 imm
  overflowOr s (addOvf32 a b) rt ((a + b).signExtend 64)

/-- ADDIU: the sum of the low word and the sign-extended immediate, no trap (R256). -/
def execAddiu (rt : Reg) (rs : Reg) (imm : BitVec 16) (s : State) : Result :=
  .next (s.setX rt ((low32 (s.getX rs) + sextImm32 imm).signExtend 64))

/-- DADDI: the 64-bit sum with the sign-extended immediate; RI without Ops64, Ov on signed overflow (R257). -/
def execDaddi (rt : Reg) (rs : Reg) (imm : BitVec 16) (s : State) : Result :=
  guardOps64 s <|
    let a := s.getX rs
    let b := sextImm imm
    overflowOr s (addOvf64 a b) rt (a + b)

/-- DADDIU: the 64-bit sum with the sign-extended immediate; RI without Ops64 (R258). -/
def execDaddiu (rt : Reg) (rs : Reg) (imm : BitVec 16) (s : State) : Result :=
  guardOps64 s (.next (s.setX rt (s.getX rs + sextImm imm)))

/-- SLTI: 1 when `x[rs]` is below the sign-extended immediate, signed (R259). -/
def execSlti (rt : Reg) (rs : Reg) (imm : BitVec 16) (s : State) : Result :=
  .next (s.setX rt (boolWord ((s.getX rs).slt (sextImm imm))))

/-- SLTIU: 1 when `x[rs]` is below the sign-extended immediate, unsigned (R260). -/
def execSltiu (rt : Reg) (rs : Reg) (imm : BitVec 16) (s : State) : Result :=
  .next (s.setX rt (boolWord ((s.getX rs).ult (sextImm imm))))

/-- ANDI: bitwise and with the zero-extended immediate (R261). -/
def execAndi (rt : Reg) (rs : Reg) (imm : BitVec 16) (s : State) : Result :=
  .next (s.setX rt (s.getX rs &&& zextImm imm))

/-- ORI: bitwise or with the zero-extended immediate (R262). -/
def execOri (rt : Reg) (rs : Reg) (imm : BitVec 16) (s : State) : Result :=
  .next (s.setX rt (s.getX rs ||| zextImm imm))

/-- XORI: bitwise exclusive or with the zero-extended immediate (R263). -/
def execXori (rt : Reg) (rs : Reg) (imm : BitVec 16) (s : State) : Result :=
  .next (s.setX rt (s.getX rs ^^^ zextImm imm))

/-- LUI: `x[rt] <- sext_64(imm || 0^16)` (R264). -/
def execLui (rt : Reg) (imm : BitVec 16) (s : State) : Result :=
  .next (s.setX rt (luiImm imm))

end Sys2Proof.Machine
end

