-- ==== Sys2Proof/Machine/MulDiv.lean ====
section
/-! DEFINITION. Multiply, divide and the HI/LO moves (spec/43_muldiv.md R300 to R312). -/

namespace Sys2Proof.Machine

/-- HI and LO written together, each from a value of its own. -/
def State.setHiLo (s : State) (hi lo : DWord) : State := { s with hi := hi, lo := lo }

/-- HI and LO from two 32-bit results, each sign-extended (R300 (b)). -/
def State.setHiLo32 (s : State) (hi lo : Word) : State := s.setHiLo (hi.signExtend 64) (lo.signExtend 64)

/-- HI and LO from a 64-bit product (R301, R302). -/
def State.setProduct32 (s : State) (p : BitVec 64) : State :=
  s.setHiLo32 (p.extractLsb' 32 32) (p.extractLsb' 0 32)

/-- HI and LO from a 128-bit product (R305, R306). -/
def State.setProduct64 (s : State) (p : BitVec 128) : State :=
  s.setHiLo (p.extractLsb' 64 64) (p.extractLsb' 0 64)

/-- Signed quotient and remainder, truncated toward zero, as `w`-bit values. The most negative value divided by
-1 wraps to itself with remainder 0 (R300 (e), D9). -/
def signedDivide (w : Nat) (a b : BitVec w) : BitVec w × BitVec w :=
  (BitVec.ofInt w (a.toInt.tdiv b.toInt), BitVec.ofInt w (a.toInt.tmod b.toInt))

/-- Unsigned quotient and remainder as `w`-bit values (R304, R308). -/
def unsignedDivide (w : Nat) (a b : BitVec w) : BitVec w × BitVec w :=
  (BitVec.ofNat w (a.toNat / b.toNat), BitVec.ofNat w (a.toNat % b.toNat))

/-- The end of a 32-bit division: a zero divisor leaves HI and LO unchanged and raises nothing (R300 (d)). -/
def divideResult32 (s : State) (divisor : Word) (qr : Word × Word) : Result :=
  .next (if divisor = 0#32 then s else s.setHiLo32 qr.2 qr.1)

/-- The end of a 64-bit division (R300 (d)). -/
def divideResult64 (s : State) (divisor : DWord) (qr : DWord × DWord) : Result :=
  .next (if divisor = 0#64 then s else s.setHiLo qr.2 qr.1)

/-- MULT: the signed 64-bit product of the low words, its halves sign-extended into HI and LO (R301). -/
def execMult (rs : Reg) (rt : Reg) (s : State) : Result :=
  .next (s.setProduct32 (BitVec.ofInt 64 ((low32 (s.getX rs)).toInt * (low32 (s.getX rt)).toInt)))

/-- MULTU: the unsigned 64-bit product of the low words, its halves sign-extended into HI and LO (R302). -/
def execMultu (rs : Reg) (rt : Reg) (s : State) : Result :=
  .next (s.setProduct32 (BitVec.ofNat 64 ((low32 (s.getX rs)).toNat * (low32 (s.getX rt)).toNat)))

/-- DIV: signed division of the low words: quotient to LO, remainder to HI (R303). -/
def execDiv (rs : Reg) (rt : Reg) (s : State) : Result :=
  let a := low32 (s.getX rs)
  let b := low32 (s.getX rt)
  divideResult32 s b (signedDivide 32 a b)

/-- DIVU: unsigned division of the low words: quotient to LO, remainder to HI (R304). -/
def execDivu (rs : Reg) (rt : Reg) (s : State) : Result :=
  let a := low32 (s.getX rs)
  let b := low32 (s.getX rt)
  divideResult32 s b (unsignedDivide 32 a b)

/-- DMULT: the signed 128-bit product into HI and LO; RI without Ops64 (R305). -/
def execDmult (rs : Reg) (rt : Reg) (s : State) : Result :=
  guardOps64 s (.next (s.setProduct64 (BitVec.ofInt 128 ((s.getX rs).toInt * (s.getX rt).toInt))))

/-- DMULTU: the unsigned 128-bit product into HI and LO; RI without Ops64 (R306). -/
def execDmultu (rs : Reg) (rt : Reg) (s : State) : Result :=
  guardOps64 s (.next (s.setProduct64 (BitVec.ofNat 128 ((s.getX rs).toNat * (s.getX rt).toNat))))

/-- DDIV: signed 64-bit division; RI without Ops64 (R307). -/
def execDdiv (rs : Reg) (rt : Reg) (s : State) : Result :=
  guardOps64 s (divideResult64 s (s.getX rt) (signedDivide 64 (s.getX rs) (s.getX rt)))

/-- DDIVU: unsigned 64-bit division; RI without Ops64 (R308). -/
def execDdivu (rs : Reg) (rt : Reg) (s : State) : Result :=
  guardOps64 s (divideResult64 s (s.getX rt) (unsignedDivide 64 (s.getX rs) (s.getX rt)))

/-- MFHI: `x[rd] <- HI` (R309). -/
def execMfhi (rd : Reg) (s : State) : Result :=
  .next (s.setX rd s.hi)

/-- MTHI: `HI <- x[rs]`; LO unchanged (R310). -/
def execMthi (rs : Reg) (s : State) : Result :=
  .next { s with hi := s.getX rs }

/-- MFLO: `x[rd] <- LO` (R311). -/
def execMflo (rd : Reg) (s : State) : Result :=
  .next (s.setX rd s.lo)

/-- MTLO: `LO <- x[rs]`; HI unchanged (R312). -/
def execMtlo (rs : Reg) (s : State) : Result :=
  .next { s with lo := s.getX rs }

end Sys2Proof.Machine
end

