-- ==== Sys2Proof/Machine/Shifts.lean ====
section
/-! DEFINITION. Shifts (spec/42_shifts.md R280 to R295). -/

namespace Sys2Proof.Machine

/-- SLL: the low word shifted left by `sa`, sign-extended (R281). -/
def execSll (rd : Reg) (rt : Reg) (sa : Nat) (s : State) : Result :=
  .next (s.setX rd ((low32 (s.getX rt) <<< sa).signExtend 64))

/-- SRL: the low word shifted right by `sa`, sign-extended (R282). -/
def execSrl (rd : Reg) (rt : Reg) (sa : Nat) (s : State) : Result :=
  .next (s.setX rd ((low32 (s.getX rt) >>> sa).signExtend 64))

/-- SRA: the low word shifted right arithmetically by `sa`, sign-extended (R283). -/
def execSra (rd : Reg) (rt : Reg) (sa : Nat) (s : State) : Result :=
  .next (s.setX rd (((low32 (s.getX rt)).sshiftRight sa).signExtend 64))

/-- SLLV: the low word shifted left by `x[rs][4:0]`, sign-extended (R284). -/
def execSllv (rd : Reg) (rt : Reg) (rs : Reg) (s : State) : Result :=
  .next (s.setX rd ((low32 (s.getX rt) <<< shiftAmount32 (s.getX rs)).signExtend 64))

/-- SRLV: the low word shifted right by `x[rs][4:0]`, sign-extended (R285). -/
def execSrlv (rd : Reg) (rt : Reg) (rs : Reg) (s : State) : Result :=
  .next (s.setX rd ((low32 (s.getX rt) >>> shiftAmount32 (s.getX rs)).signExtend 64))

/-- SRAV: the low word shifted right arithmetically by `x[rs][4:0]`, sign-extended (R286). -/
def execSrav (rd : Reg) (rt : Reg) (rs : Reg) (s : State) : Result :=
  .next (s.setX rd (((low32 (s.getX rt)).sshiftRight (shiftAmount32 (s.getX rs))).signExtend 64))

/-- DSLL: `x[rt] << sa`; RI without Ops64 (R287). -/
def execDsll (rd : Reg) (rt : Reg) (sa : Nat) (s : State) : Result :=
  guardOps64 s (.next (s.setX rd (s.getX rt <<< sa)))

/-- DSRL: `x[rt] >> sa`; RI without Ops64 (R288). -/
def execDsrl (rd : Reg) (rt : Reg) (sa : Nat) (s : State) : Result :=
  guardOps64 s (.next (s.setX rd (s.getX rt >>> sa)))

/-- DSRA: `x[rt] >>a sa`; RI without Ops64 (R289). -/
def execDsra (rd : Reg) (rt : Reg) (sa : Nat) (s : State) : Result :=
  guardOps64 s (.next (s.setX rd ((s.getX rt).sshiftRight sa)))

/-- DSLL32: `x[rt] << (sa + 32)`; RI without Ops64 (R290). -/
def execDsll32 (rd : Reg) (rt : Reg) (sa : Nat) (s : State) : Result :=
  guardOps64 s (.next (s.setX rd (s.getX rt <<< (sa + 32))))

/-- DSRL32: `x[rt] >> (sa + 32)`; RI without Ops64 (R291). -/
def execDsrl32 (rd : Reg) (rt : Reg) (sa : Nat) (s : State) : Result :=
  guardOps64 s (.next (s.setX rd (s.getX rt >>> (sa + 32))))

/-- DSRA32: `x[rt] >>a (sa + 32)`; RI without Ops64 (R292). -/
def execDsra32 (rd : Reg) (rt : Reg) (sa : Nat) (s : State) : Result :=
  guardOps64 s (.next (s.setX rd ((s.getX rt).sshiftRight (sa + 32))))

/-- DSLLV: `x[rt] << x[rs][5:0]`; RI without Ops64 (R293). -/
def execDsllv (rd : Reg) (rt : Reg) (rs : Reg) (s : State) : Result :=
  guardOps64 s (.next (s.setX rd (s.getX rt <<< shiftAmount64 (s.getX rs))))

/-- DSRLV: `x[rt] >> x[rs][5:0]`; RI without Ops64 (R294). -/
def execDsrlv (rd : Reg) (rt : Reg) (rs : Reg) (s : State) : Result :=
  guardOps64 s (.next (s.setX rd (s.getX rt >>> shiftAmount64 (s.getX rs))))

/-- DSRAV: `x[rt] >>a x[rs][5:0]`; RI without Ops64 (R295). -/
def execDsrav (rd : Reg) (rt : Reg) (rs : Reg) (s : State) : Result :=
  guardOps64 s (.next (s.setX rd ((s.getX rt).sshiftRight (shiftAmount64 (s.getX rs)))))

end Sys2Proof.Machine
end

