-- ==== Sys2Proof/Machine/TrapSystem.lean ====
section
/-! DEFINITION. Conditional traps, SYSCALL, BREAK, SYNC and CACHE (spec/46_trap_system.md R410 to R426). -/

namespace Sys2Proof.Machine

/-- TGE: Tr when `signed(x[rs]) >= signed(x[rt])` (R411). -/
def execTge (rs : Reg) (rt : Reg) (_code : Nat) (s : State) : Result :=
  trapIf s (!(s.getX rs).slt (s.getX rt))

/-- TGEU: Tr when `unsigned(x[rs]) >= unsigned(x[rt])` (R412). -/
def execTgeu (rs : Reg) (rt : Reg) (_code : Nat) (s : State) : Result :=
  trapIf s (!(s.getX rs).ult (s.getX rt))

/-- TLT: Tr when `signed(x[rs]) < signed(x[rt])` (R413). -/
def execTlt (rs : Reg) (rt : Reg) (_code : Nat) (s : State) : Result :=
  trapIf s ((s.getX rs).slt (s.getX rt))

/-- TLTU: Tr when `unsigned(x[rs]) < unsigned(x[rt])` (R414). -/
def execTltu (rs : Reg) (rt : Reg) (_code : Nat) (s : State) : Result :=
  trapIf s ((s.getX rs).ult (s.getX rt))

/-- TEQ: Tr when `x[rs] = x[rt]` (R415). -/
def execTeq (rs : Reg) (rt : Reg) (_code : Nat) (s : State) : Result :=
  trapIf s (decide (s.getX rs = s.getX rt))

/-- TNE: Tr when `x[rs] != x[rt]` (R416). -/
def execTne (rs : Reg) (rt : Reg) (_code : Nat) (s : State) : Result :=
  trapIf s (decide (s.getX rs ≠ s.getX rt))

/-- TGEI: Tr when `signed(x[rs]) >= signed(sext_64(imm))` (R417). -/
def execTgei (rs : Reg) (imm : BitVec 16) (s : State) : Result :=
  trapIf s (!(s.getX rs).slt (sextImm imm))

/-- TGEIU: Tr when `unsigned(x[rs]) >= unsigned(sext_64(imm))` (R418). -/
def execTgeiu (rs : Reg) (imm : BitVec 16) (s : State) : Result :=
  trapIf s (!(s.getX rs).ult (sextImm imm))

/-- TLTI: Tr when `signed(x[rs]) < signed(sext_64(imm))` (R419). -/
def execTlti (rs : Reg) (imm : BitVec 16) (s : State) : Result :=
  trapIf s ((s.getX rs).slt (sextImm imm))

/-- TLTIU: Tr when `unsigned(x[rs]) < unsigned(sext_64(imm))` (R420). -/
def execTltiu (rs : Reg) (imm : BitVec 16) (s : State) : Result :=
  trapIf s ((s.getX rs).ult (sextImm imm))

/-- TEQI: Tr when `x[rs] = sext_64(imm)` (R421). -/
def execTeqi (rs : Reg) (imm : BitVec 16) (s : State) : Result :=
  trapIf s (decide (s.getX rs = sextImm imm))

/-- TNEI: Tr when `x[rs] != sext_64(imm)` (R422). -/
def execTnei (rs : Reg) (imm : BitVec 16) (s : State) : Result :=
  trapIf s (decide (s.getX rs ≠ sextImm imm))

/-- SYSCALL: `raise Sys`, in every mode; the code is not examined (R423). -/
def execSyscall (_code : Nat) (s : State) : Result :=
  .next (s.raise .sys)

/-- BREAK: `raise Bp`, in every mode; the code is not examined (R424). -/
def execBreakI (_code : Nat) (s : State) : Result :=
  .next (s.raise .bp)

/-- SYNC: nothing to order (R425). -/
def execSync (s : State) : Result :=
  .next s

/-- CACHE: CpU(0) when coprocessor 0 is not usable, otherwise no effect for every `op` (R426). -/
def execCache (_op : Nat) (_base : Reg) (_offset : BitVec 16) (s : State) : Result :=
  guardCp0 s (.next s)

end Sys2Proof.Machine
end

