-- ==== Sys2Proof/Machine/Step.lean ====
section
/-! DEFINITION. One step of the machine (spec/40_dispatch.md R220), and a word placed where the next step
fetches. Both only call Machine/Cycle.lean and the dispatch. -/

namespace Sys2Proof.Machine

/-- One step (R220). -/
def step (s : State) : Host.Outcome State Fault Refusal := stepWith exec s

/-- The state with the instruction of `nbits` bits `w` stored where the next step fetches (log entry 17). -/
def State.withFetchWord (s : State) (nbits w : Nat) : State := placeWord s (BitVec.ofNat 32 (w % 2 ^ nbits))

end Sys2Proof.Machine
end

