-- ==== Sys2Proof/Safety.lean ====
section
/-! DEFINITION. What a sound state and a safe step are, and the words statements use: the invariant of the
machine at an instruction boundary, numbers and bytes, the frames, the accesses that succeed, and the numbers
floating-point patterns stand for. -/

namespace Sys2Proof.Machine

/-! ## The invariant -/

/-- Every listed byte lies in the physical address space (R101). -/
def Memory.inSpace (m : Memory) : Bool := m.all fun c => decide (c.1 < 2 ^ 36)

/-- `bstate` at an instruction boundary is NONE or DELAY (R29). -/
def BState.atBoundary (b : BState) : Bool := decide (b = .none) || decide (b = .delay)

/-- The bits of the coprocessor-0 registers that read as zero are zero (R41 to R61), and the read-only bits of
Config are the parameter's (R57). -/
def Cp0.reservedOk (p : Params) (c : Cp0) : Bool :=
  decide (c.index &&& ~~~0x8000003F#32 = 0#32) &&
    decide (c.entryLo0 &&& ~~~0x3FFFFFFF#64 = 0#64) &&
    decide (c.entryLo1 &&& ~~~0x3FFFFFFF#64 = 0#64) &&
    decide (c.context &&& 0xF#64 = 0#64) &&
    decide (c.pageMask &&& ~~~0x01FFE000#32 = 0#32) &&
    decide (c.wired &&& ~~~0x3F#32 = 0#32) &&
    decide (c.entryHi &&& ~~~0xC00000FFFFFFE0FF#64 = 0#64) &&
    decide (c.cause &&& ~~~causeStored = 0#32) &&
    decide (c.config &&& ~~~0x3F#32 = p.configReset &&& ~~~0x3F#32) &&
    decide (c.watchLo &&& 0x4#32 = 0#32) &&
    decide (c.watchHi &&& ~~~0xF#32 = 0#32) &&
    decide (c.xContext &&& 0xF#64 = 0#64) &&
    decide (c.ecc &&& ~~~0xFF#32 = 0#32)

/-- What holds at every instruction boundary. -/
structure State.Inv (s : State) : Prop where
  /-- Memory is in its canonical form. -/
  memWf : Memory.wf s.mem = true
  /-- Memory lists physical addresses only. -/
  memInSpace : Memory.inSpace s.mem = true
  /-- The cell of `x[0]` holds zero (R20). -/
  zeroReg : s.x[0] = 0#64
  /-- The sequencer is at a boundary (R29). -/
  boundary : s.bstate.atBoundary = true
  /-- The reserved bits of FCR31 are zero (R33). -/
  fcr31Reserved : s.fcr31 &&& ~~~fcr31Mask = 0#32
  /-- The reserved bits of the coprocessor-0 registers are as they read. -/
  cp0Reserved : s.cp0.reservedOk s.params = true
  /-- The observed line is a multiple of the line size (R30). -/
  lineAligned : s.llLine &&& BitVec.ofNat 36 (s.params.llLineBytes - 1) = 0#36
  /-- Count was written, and the timer updated, no later than now (R31). -/
  timeBase : s.countZero ≤ s.cycles
  /-- The last timer update is no later than now (R31). -/
  timerUpdate : s.timerSeen ≤ s.cycles

/-- A step is safe when it gives a next state: the core has no fault, and the refusals are the cases the spec
leaves undefined. -/
def State.StepSafe (s : State) : Prop := ∃ t, step s = .next t

/-! ## Numbers

Statements give results as numbers and bytes, in words of their own, not through the operations of the model. -/

/-- The signed number in bits 31:0. -/
def lowInt (v : DWord) : Int := Int.bmod v.toNat (2 ^ 32)

/-- The unsigned number in bits 31:0. -/
def lowNat (v : DWord) : Nat := v.toNat % 2 ^ 32

/-- The 64-bit pattern of a number, modulo 2^64. -/
def dwordOf (i : Int) : DWord := BitVec.ofInt 64 i

/-- The number modulo 2^32, sign-extended to 64 bits. -/
def wordOf (i : Int) : DWord := BitVec.ofInt 64 (Int.bmod i (2 ^ 32))

/-- Byte `j` of a doubleword, byte 0 the least significant. -/
def byteOf (v : DWord) (j : Nat) : Byte := v.extractLsb' (8 * j) 8

/-- An address computed as a number: modulo 2^64 in 64-bit addressing, otherwise sign-extended from bit 31 (R18). -/
def wrapAddress (s : State) (i : Int) : DWord := if s.addr64 then dwordOf i else wordOf i

/-- The effective address of a load or store (R360). -/
def addressOf (s : State) (base : Reg) (offset : BitVec 16) : DWord :=
  wrapAddress s ((s.getX base).toInt + offset.toInt)

/-- The target of a branch (R320). -/
def relativeTarget (s : State) (offset : BitVec 16) : DWord := wrapAddress s (s.pc.toInt + 4 + 4 * offset.toInt)

/-- The number that the `n` bytes from `a` spell in the byte order of the bus (R104). -/
def numberAt (s : State) (a n : Nat) : Nat :=
  let bytes := (List.range n).map fun i => (Memory.readByte s.mem (a + i)).toNat
  if s.params.bigEndian then bytes.foldl (fun acc b => 256 * acc + b) 0
  else bytes.foldr (fun b acc => b + 256 * acc) 0

/-- The bits of a word that a statement gives one by one. -/
def HasBits (w : Word) (bit : Nat → Bool) : Prop := ∀ j, j < 32 → w.getLsbD j = bit j

/-! ## Frames -/

/-- Every byte of memory reads as before. -/
def SameMemory (s t : State) : Prop := ∀ a, Memory.readByte t.mem a = Memory.readByte s.mem a

/-- Every general register but `r` reads as before. -/
def OtherX (s t : State) (r : Reg) : Prop := ∀ q, q ≠ r → t.getX q = s.getX q

/-- Nothing but general register `r` may differ, and memory reads as before everywhere. -/
def OnlyX (s t : State) (r : Reg) : Prop := t = { s with x := t.x } ∧ OtherX s t r ∧ SameMemory s t

/-- The instruction completes, writes `v` to general register `d`, and changes nothing else; to register 0 it
writes nothing (R20). -/
def WritesX (s : State) (r : Result) (d : Reg) (v : DWord) : Prop :=
  ∃ t, r = .next t ∧ OnlyX s t d ∧ (d = 0 → t = s) ∧ (d ≠ 0 → t.getX d = v)

/-- `WritesX`, the value given bit by bit. -/
def WritesBits (s : State) (r : Result) (d : Reg) (bit : Nat → Bool) : Prop :=
  ∃ t, r = .next t ∧ OnlyX s t d ∧ (d = 0 → t = s) ∧ (d ≠ 0 → ∀ j, j < 64 → (t.getX d).getLsbD j = bit j)

/-- The instruction completes, writes HI and LO, and changes nothing else. -/
def WritesHiLo (s : State) (r : Result) (hi lo : DWord) : Prop :=
  ∃ t, r = .next t ∧ t = { s with hi := t.hi, lo := t.lo } ∧ SameMemory s t ∧ t.hi = hi ∧ t.lo = lo

/-- The result in `bits` signed bits, or the overflow exception with nothing written (R240). -/
def SumOrTrap (bits : Nat) (s : State) (r : Result) (d : Reg) (z : Int) : Prop :=
  (-(2 ^ (bits - 1)) ≤ z ∧ z < 2 ^ (bits - 1) → WritesX s r d (dwordOf z)) ∧
    (¬(-(2 ^ (bits - 1)) ≤ z ∧ z < 2 ^ (bits - 1)) → r = .next (s.raise .ov))

/-- The instruction completes as a taken branch to `target`: the sequencer alone changes (R321). -/
def Jumps (s : State) (r : Result) (target : DWord) : Prop :=
  ∃ t, r = .next t ∧ t = { s with bstate := t.bstate, btarget := t.btarget } ∧ SameMemory s t ∧
    t.bstate = .branch ∧ t.btarget = target

/-- An ordinary branch: taken on `c`, else no change (R321). -/
def Branches (s : State) (r : Result) (c : Prop) (target : DWord) : Prop :=
  (c → Jumps s r target) ∧ (¬c → r = .next s)

/-- A likely branch: taken on `c`, else the delay slot is nullified (R322). -/
def BranchesLikely (s : State) (r : Result) (c : Prop) (target : DWord) : Prop :=
  (c → Jumps s r target) ∧ (¬c → r = .next { s with bstate := .nullify })

/-- A link instruction: `pc + 8` to register `d`, and the sequencer as given; nothing else changes (R323). -/
def LinksAnd (s : State) (r : Result) (d : Reg) (bstate : BState) (btarget : DWord) : Prop :=
  ∃ t, r = .next t ∧ t = { s with x := t.x, bstate := bstate, btarget := btarget } ∧ OtherX s t d ∧
    SameMemory s t ∧ (d ≠ 0 → t.getX d = s.pc + 8#64)

/-- A conditional trap: Tr on `c`, else no change (R410). -/
def TrapsOn (s : State) (r : Result) (c : Prop) : Prop := (c → r = .next (s.raise .tr)) ∧ (¬c → r = .next s)

/-! ## Accesses that succeed -/

/-- The access at `pa` meets the watchpoint: a data access of an enabled kind, with EXL and ERL clear, in the
watched doubleword (R115). -/
def Watched (s : State) (k : AccessKind) (pa : PAddr) : Prop :=
  s.cp0.status.getLsbD 1 = false ∧ s.cp0.status.getLsbD 2 = false ∧
    ((k = .load ∧ s.cp0.watchLo.getLsbD 1 = true) ∨ (k = .store ∧ s.cp0.watchLo.getLsbD 0 = true)) ∧
    pa.toNat / 8 = s.cp0.watchHi.toNat % 2 ^ 4 * 2 ^ 29 + s.cp0.watchLo.toNat / 8

/-- The data access of `n` bytes at `va` is aligned, translates to `pa`, and is not watched: the conditions
under which R110 and R111 transfer. -/
def AccessOk (s : State) (k : AccessKind) (va : DWord) (n : Nat) (pa : PAddr) : Prop :=
  va.toNat % n = 0 ∧ (∃ p, translate s k va = .ok pa p) ∧ ¬Watched s k pa

/-- The partial access at `va` translates to `pa` and is not watched (R363): no alignment is asked. -/
def PartOk (s : State) (k : AccessKind) (va : DWord) (pa : PAddr) : Prop :=
  (∃ p, translate s k va = .ok pa p) ∧ ¬Watched s k pa

/-! ## Results of loads and stores -/

/-- The address of the first byte of the aligned data access of `n` bytes located at `pa`: mirrored within its
doubleword when accesses are reversed, at `pa` itself when they are not (R108). -/
def firstByte (s : State) (pa : PAddr) (n : Nat) : Nat :=
  if s.userMode = true ∧ s.cp0.status.getLsbD 25 = true then pa.toNat - pa.toNat % 8 + (8 - n - pa.toNat % 8)
  else pa.toNat

/-- No byte of the observed line is among the `n` from `a`. -/
def MissesLine (s : State) (a n : Nat) : Prop := ∀ i, i < n → s.inLine (a + i) = false

/-- After the store, the `n` bytes from `a` spell the number `v`, every other byte reads as before, and the
observer stays only when none of the bytes is in its line (R105, R142). -/
def Stored (s t : State) (a n v : Nat) : Prop :=
  numberAt t a n = v ∧ (∀ b, b < a ∨ a + n ≤ b → Memory.readByte t.mem b = Memory.readByte s.mem b) ∧
    (t.llbit = true ↔ s.llbit = true ∧ MissesLine s a n)

/-- The instruction completes as a store of the number `v` in the `n` bytes from `a`; nothing else changes. -/
def Stores (s : State) (r : Result) (a n v : Nat) : Prop :=
  ∃ t, r = .next t ∧ t = { s with mem := t.mem, llbit := t.llbit } ∧ Stored s t a n v

/-- How an access at `va` that asks no alignment ends when it is out of the mode's segments, not mapped,
watched, or undefined: in this order (R113, R115, R116, R363, U12). -/
def PartFaults (s : State) (r : Result) (k : AccessKind) (va : DWord) : Prop :=
  (translate s k va = .error → r = .next (s.raiseAddressError k va)) ∧
    (∀ m, translate s k va = .miss m → r = .next (s.raiseTlb m k va)) ∧
    (∀ pa p, translate s k va = .ok pa p → Watched s k pa → r = .next (s.raise .watch)) ∧
    (translate s k va = .undefinedMask → r = .refused .undefinedPageMask)

/-- How a load or store of `n` bytes at `va` ends when it is misaligned, and then as `PartFaults` says (R110,
R111, R113, R115, R116, U12). -/
def AccessFaults (s : State) (r : Result) (k : AccessKind) (va : DWord) (n : Nat) : Prop :=
  (va.toNat % n ≠ 0 → r = .next (s.raiseAddressError k va)) ∧ (va.toNat % n = 0 → PartFaults s r k va)

/-- The byte address a partial access splits: mirrored within the doubleword when accesses are reversed (R363,
R108). -/
def partByte (s : State) (pa : PAddr) : Nat :=
  if s.userMode = true ∧ s.cp0.status.getLsbD 25 = true then pa.toNat - pa.toNat % 8 + (7 - pa.toNat % 8)
  else pa.toNat

/-- The offset, in the aligned `n` bytes, of the byte that comes `j` places after the addressed one (offset
`k`) on the way to the less significant bytes; `none` past the end (R363, left forms). -/
def offsetDown (bigEndian : Bool) (n k j : Nat) : Option Nat :=
  if bigEndian then (if k + j < n then some (k + j) else none) else (if j ≤ k then some (k - j) else none)

/-- The same on the way to the more significant bytes (R363, right forms). -/
def offsetUp (bigEndian : Bool) (n k j : Nat) : Option Nat := offsetDown (!bigEndian) n k j

/-- Byte `j` of the register is the memory byte at the offset given, or the old byte. -/
def MergedByte (s t : State) (d : Reg) (a j : Nat) (o : Option Nat) : Prop :=
  byteOf (t.getX d) j =
    match o with
    | some m => Memory.readByte s.mem (a + m)
    | none => byteOf (s.getX d) j

/-- A left partial load in `n` bytes at the byte address `e`: the addressed byte becomes the most significant,
the less significant bytes follow it, the rest of the register's low `n` bytes is kept (R363). -/
def LoadsLeft (s : State) (r : Result) (d : Reg) (n e : Nat) : Prop :=
  ∃ t, r = .next t ∧ OnlyX s t d ∧ (d = 0 → t = s) ∧
    (d ≠ 0 → ∀ j, j < n →
      MergedByte s t d (e - e % n) (n - 1 - j) (offsetDown s.params.bigEndian n (e % n) j)) ∧
    (n = 4 → t.getX d = if d = 0 then 0#64 else wordOf (lowInt (t.getX d)))

/-- A right partial load: the addressed byte becomes the least significant (R363). -/
def LoadsRight (s : State) (r : Result) (d : Reg) (n e : Nat) : Prop :=
  ∃ t, r = .next t ∧ OnlyX s t d ∧ (d = 0 → t = s) ∧
    (d ≠ 0 → ∀ j, j < n → MergedByte s t d (e - e % n) j (offsetUp s.params.bigEndian n (e % n) j)) ∧
    (n = 4 → t.getX d = if d = 0 then 0#64 else wordOf (lowInt (t.getX d)))

/-- A partial store in the aligned `n` bytes from `a`: byte `lane j` of `v` goes to the offset `off j` where
there is one; every other byte of memory reads as before; the observer stays only when no written byte is in
its line; nothing else changes (R106, R142, R363). -/
def StoresPart (s : State) (r : Result) (a n : Nat) (v : DWord) (lane : Nat → Nat) (off : Nat → Option Nat) :
    Prop :=
  ∃ t, r = .next t ∧ t = { s with mem := t.mem, llbit := t.llbit } ∧
    (∀ j m, j < n → off j = some m → Memory.readByte t.mem (a + m) = byteOf v (lane j)) ∧
    (∀ b, (∀ j m, j < n → off j = some m → b ≠ a + m) → Memory.readByte t.mem b = Memory.readByte s.mem b) ∧
    (t.llbit = true ↔ s.llbit = true ∧ ∀ j m, j < n → off j = some m → s.inLine (a + m) = false)

/-! ## Floating-point registers and FCR31 -/

/-- The 32-bit number that register `n` names: with FR = 0 an odd register is the upper half of the even cell
below it (R481). -/
def single (s : State) (n : FReg) : Nat :=
  if s.fr ∨ n.val % 2 = 0 then s.f[n.val].toNat % 2 ^ 32
  else (s.f[n.val - 1]'(by have := n.isLt; omega)).toNat / 2 ^ 32

/-- The cells after a 32-bit write of `v` to register `n` (R481). -/
def SingleWritten (fr : Bool) (f g : Vector DWord 32) (n : FReg) (v : Nat) : Prop :=
  ∀ q : Fin 32, g[q.val] =
    if fr then (if q = n then BitVec.ofNat 64 v else f[q.val])
    else if n.val % 2 = 0 then
      (if q = n then BitVec.ofNat 64 (f[q.val].toNat / 2 ^ 32 * 2 ^ 32 + v) else f[q.val])
    else (if q.val + 1 = n.val then BitVec.ofNat 64 (v * 2 ^ 32 + f[q.val].toNat % 2 ^ 32) else f[q.val])

/-- The cells after a 64-bit write of `v` to register `n` (R481). -/
def DoubleWritten (f g : Vector DWord 32) (n : FReg) (v : Nat) : Prop :=
  ∀ q : Fin 32, g[q.val] = if q = n then BitVec.ofNat 64 v else f[q.val]

/-- A 64-bit access may name register `n` (R481). -/
def Legal64 (s : State) (n : FReg) : Prop := s.fr = true ∨ n.val % 2 = 0

/-- `P` where 64-bit register `n` may be named, the refusal of U21 where it may not. -/
def Needs64 (s : State) (n : FReg) (r : Result) (P : Prop) : Prop :=
  (Legal64 s n → P) ∧ (¬Legal64 s n → r = .refused .oddFpRegister)

/-- The instruction completes and writes 32 bits of a floating-point register; nothing else changes. -/
def WritesSingle (s : State) (r : Result) (n : FReg) (v : Nat) : Prop :=
  ∃ t, r = .next t ∧ t = { s with f := t.f } ∧ SameMemory s t ∧ SingleWritten s.fr s.f t.f n v

/-- The instruction completes and writes a 64-bit floating-point register; nothing else changes. -/
def WritesDouble (s : State) (r : Result) (n : FReg) (v : Nat) : Prop :=
  ∃ t, r = .next t ∧ t = { s with f := t.f } ∧ SameMemory s t ∧ DoubleWritten s.f t.f n v

/-- FCR31 with the flag set `fl` in Cause, E clear, every other bit as it was (R482). -/
def CauseIs (w v : Word) (fl : FpFlags) : Prop :=
  HasBits v fun j => if 12 ≤ j ∧ j ≤ 17 then fl.getLsbD (j - 12) else w.getLsbD j

/-- FCR31 with the flag set `fl` in Cause and added to Flag, every other bit as it was (R482). -/
def CauseAndFlagsAre (w v : Word) (fl : FpFlags) : Prop :=
  HasBits v fun j =>
    if 12 ≤ j ∧ j ≤ 17 then fl.getLsbD (j - 12)
    else w.getLsbD j || (decide (2 ≤ j) && decide (j ≤ 6) && fl.getLsbD (j - 2))

/-- Some flag of `fl` has its Enable bit (FCR31 bits 11:7) set. -/
def Enabled (s : State) (fl : FpFlags) : Prop := ∃ j, j < 5 ∧ fl.getLsbD j = true ∧ s.fcr31.getLsbD (7 + j) = true

/-- A flag is enabled: FPE, with Cause written and nothing else (R482). -/
def TrapsFpe (s : State) (r : Result) (fl : FpFlags) : Prop :=
  ∃ w, CauseIs s.fcr31 w fl ∧ r = .next (State.raise { s with fcr31 := w } .fpe)

/-- A 32-bit floating-point result with its flags: FPE, or Cause and Flag and the register (R482, R521). -/
def FinishesSingle (s : State) (r : Result) (n : FReg) (res : FpResult) : Prop :=
  (¬Enabled s res.2 → ∃ t, r = .next t ∧ t = { s with f := t.f, fcr31 := t.fcr31 } ∧ SameMemory s t ∧
    CauseAndFlagsAre s.fcr31 t.fcr31 res.2 ∧ SingleWritten s.fr s.f t.f n (res.1 % 2 ^ 32)) ∧
    (Enabled s res.2 → TrapsFpe s r res.2)

/-- A 64-bit floating-point result with its flags. -/
def FinishesDouble (s : State) (r : Result) (n : FReg) (res : FpResult) : Prop :=
  (¬Enabled s res.2 → Needs64 s n r (∃ t, r = .next t ∧ t = { s with f := t.f, fcr31 := t.fcr31 } ∧
    SameMemory s t ∧ CauseAndFlagsAre s.fcr31 t.fcr31 res.2 ∧ DoubleWritten s.f t.f n res.1)) ∧
    (Enabled s res.2 → TrapsFpe s r res.2)

/-- A comparison: FPE, or Cause and Flag and the condition bit, bit 23 (R482, R524). -/
def FinishesCompare (s : State) (r : Result) (c : Bool) (fl : FpFlags) : Prop :=
  (¬Enabled s fl → ∃ t w, r = .next t ∧ t = { s with fcr31 := t.fcr31 } ∧ SameMemory s t ∧
    CauseAndFlagsAre s.fcr31 w fl ∧ HasBits t.fcr31 fun j => if j = 23 then c else w.getLsbD j) ∧
    (Enabled s fl → TrapsFpe s r fl)

/-! ## The numbers floating-point patterns stand for -/

/-- The rational number of a finite pattern, `none` for infinities and NaNs (IEEE 754, R520). -/
def fpRat (fmt : FpFormat) (b : Nat) : Option ℚ :=
  let frac := b % 2 ^ fmt.fracBits
  let ex := b / 2 ^ fmt.fracBits % 2 ^ fmt.expBits
  let sign : ℚ := if b / 2 ^ (fmt.fracBits + fmt.expBits) % 2 = 1 then -1 else 1
  let bias : ℤ := 2 ^ (fmt.expBits - 1) - 1
  if ex = 2 ^ fmt.expBits - 1 then none
  else if ex = 0 then some (sign * frac * 2 ^ (1 - bias - fmt.fracBits))
  else some (sign * (2 ^ fmt.fracBits + frac) * 2 ^ (ex - bias - fmt.fracBits))

/-- The pattern of an infinity. -/
def IsInf (fmt : FpFormat) (neg : Bool) (b : Nat) : Prop :=
  b = (if neg then 2 ^ (fmt.fracBits + fmt.expBits) else 0) + (2 ^ fmt.expBits - 1) * 2 ^ fmt.fracBits

/-- A NaN pattern: exponent all ones, fraction not zero. -/
def IsNaN (fmt : FpFormat) (b : Nat) : Prop :=
  b / 2 ^ fmt.fracBits % 2 ^ fmt.expBits = 2 ^ fmt.expBits - 1 ∧ b % 2 ^ fmt.fracBits ≠ 0

/-- A number rounded to an integer (R522). -/
def roundInt (rm : BitVec 2) (x : ℚ) : ℤ :=
  if rm = 0#2 then
    let f := ⌊x⌋
    if x - f < 1 / 2 then f else if 1 / 2 < x - f then f + 1 else if f % 2 = 0 then f else f + 1
  else if rm = 1#2 then (if 0 ≤ x then ⌊x⌋ else ⌈x⌉)
  else if rm = 2#2 then ⌈x⌉
  else ⌊x⌋

/-- The conversion of a pattern to a signed integer of `w` bits, with its flags: V for a NaN, an infinity or a
number out of range, I for a number that is not the integer (R523). -/
def intResult (fmt : FpFormat) (w : Nat) (invalid : BitVec w) (rm : BitVec 2) (b : Nat) : FpResult :=
  match fpRat fmt b with
  | none => (invalid.toNat, 0x10#5)
  | some x =>
    let i := roundInt rm x
    if -(2 ^ (w - 1)) ≤ i ∧ i < 2 ^ (w - 1) then ((BitVec.ofInt w i).toNat, if (i : ℚ) = x then 0#5 else 1#5)
    else (invalid.toNat, 0x10#5)

/-- `n` is the real number `x` rounded to an integer (R522). -/
def RoundsTo (rm : BitVec 2) (x : ℝ) (n : ℤ) : Prop :=
  (rm = 0#2 → |x - n| ≤ 1 / 2 ∧ (|x - n| = 1 / 2 → Even n)) ∧
    (rm = 1#2 → 0 ≤ n * x ∧ |(n : ℝ)| ≤ |x| ∧ |x| < |(n : ℝ)| + 1) ∧
    (rm = 2#2 → x ≤ n ∧ n < x + 1) ∧ (rm = 3#2 → n ≤ x ∧ x < n + 1)

/-- The exponent of the unit of the smallest numbers of a format. -/
def leastUnit (fmt : FpFormat) : ℤ := 2 - 2 ^ (fmt.expBits - 1) - fmt.fracBits

/-- The pattern and flags are those of the non-zero real number `x` correctly rounded (R520): `x` is rounded to
a multiple `n` of the unit `2^q` of its binade, and a result beyond the largest finite number overflows. What
R520 leaves open (when tininess is detected; an exact tiny result with Enable U) is left open. -/
def CorrectlyRounded (fmt : FpFormat) (rm : BitVec 2) (enU : Bool) (x : ℝ) (res : FpResult) : Prop :=
  ∃ q n : ℤ, leastUnit fmt ≤ q ∧ |x| < 2 ^ (q + fmt.fracBits + 1) ∧
    (2 ^ (q + fmt.fracBits) ≤ |x| ∨ q = leastUnit fmt) ∧ RoundsTo rm (x / 2 ^ q) n ∧
    (|(n : ℝ)| * 2 ^ q < 2 ^ (2 ^ (fmt.expBits - 1) : ℕ) →
      (∃ v, fpRat fmt res.1 = some v ∧ (v : ℝ) = n * 2 ^ q) ∧
        (res.1 / 2 ^ (fmt.fracBits + fmt.expBits) = if x < 0 then 1 else 0) ∧
        res.2.extractLsb' 2 3 = 0#3 ∧ (res.2.getLsbD 0 = true ↔ (n : ℝ) * 2 ^ q ≠ x) ∧
        (res.2.getLsbD 1 = true →
          |x| < 2 ^ (leastUnit fmt + fmt.fracBits) ∧ (res.2.getLsbD 0 = true ∨ enU = true)) ∧
        (|(n : ℝ)| * 2 ^ q < 2 ^ (leastUnit fmt + fmt.fracBits) → res.2.getLsbD 0 = true →
          res.2.getLsbD 1 = true)) ∧
    (2 ^ (2 ^ (fmt.expBits - 1) : ℕ) ≤ |(n : ℝ)| * 2 ^ q →
      res.2 = 0x05#5 ∧
        ((rm = 0#2 ∨ (rm = 2#2 ∧ 0 < x) ∨ (rm = 3#2 ∧ x < 0)) → IsInf fmt (decide (x < 0)) res.1) ∧
        (¬(rm = 0#2 ∨ (rm = 2#2 ∧ 0 < x) ∨ (rm = 3#2 ∧ x < 0)) → IsInf fmt (decide (x < 0)) (res.1 + 1)))

end Sys2Proof.Machine
end

