-- ==== Sys2Proof/Certificates/Slice0/Obligations.lean ====
section
/-! DEFINITION. The statements for the provers, one proposition each; OBLIGATIONS.json says what each states. -/

open Sys2Proof Sys2Proof.Machine

/-- Decoding an encoded well-formed instruction gives it back (R181, R182, R184). -/
def Obligations.DecodeEncodeRoundTrip : Prop :=
  ∀ i : Instr, WellFormed i = true → decode (encode i) = .instr i

/-- The decoder agrees with every row of the opcode table, in both directions (R184, R192, R193). The model's choice: ERET is matched on all 32 bits, as R623 says (log entry 8). -/
def Obligations.DecodeFollowsOpcodeTable : Prop :=
  (∀ (w : Word) (i : Instr), decode w = .instr i → WellFormed i = true ∧ w &&& (tableRow i).1 = (tableRow i).2) ∧
    (∀ (w : Word) (i : Instr), w &&& (tableRow i).1 = (tableRow i).2 →
      ∃ j, decode w = .instr j ∧ tableRow j = tableRow i)

/-- Words written out in the spec decode to the instructions it names (R192, R264, R281, R301, R324, R383, R417, R441, R489, R623). -/
def Obligations.SpecWordsDecode : Prop :=
  decode 0x3C021234#32 = .instr (.lui 2 0x1234#16) ∧ decode 0x00021900#32 = .instr (.sll 3 2 4) ∧
    decode 0x00000040#32 = .instr (.sll 0 0 1) ∧ decode 0x00220018#32 = .instr (.mult 1 2) ∧
    decode 0x08000400#32 = .instr (.j 0x0000400#26) ∧ decode 0x03E00008#32 = .instr (.jr 31) ∧
    decode 0x03E0F808#32 = .instr (.jr 31) ∧ decode 0xC0220004#32 = .instr (.ll 2 1 4#16) ∧
    decode 0x0428FFFF#32 = .instr (.tgei 1 0xFFFF#16) ∧ decode 0x0000000C#32 = .instr (.syscall 0) ∧
    decode 0xBC940000#32 = .instr (.cache 0x14 4 0#16) ∧ decode 0x40227000#32 = .instr (.dmfc0 2 14) ∧
    decode 0x42000018#32 = .instr .eret ∧ decode 0x48000000#32 = .instr (.cop2 0) ∧
    decode 0x44C2F800#32 = .instr (.ctc1 2 31) ∧ decode 0x46000021#32 = .instr (.cvtDS 0 0) ∧
    decode 0x46000020#32 = .reserved .cop1

/-- A reserved word always raises: RI, or CpU(0) then RI, or CpU(1) then FPE with Cause E (R193, R427, R440, R599, R483). -/
def Obligations.ReservedWordsRaise : Prop :=
  ∀ (s : State) (pa : PAddr) (k : ReservedKind),
    let b := beginStep s
    let w : Word := BitVec.ofNat 32 (numberAt b pa.toNat 4)
    b.interruptTaken = false → AccessOk b .fetch b.pc 4 pa → decode w = .reserved k →
      (w.extractLsb' 26 6 ≠ 0x10#6 → w.extractLsb' 26 6 ≠ 0x11#6 →
        step s = .next (endStep none (b.raise .ri).forceX0)) ∧
      (w.extractLsb' 26 6 = 0x10#6 → b.cp0Usable = false →
        step s = .next (endStep none (takeException .cpu 0#2 0x180#64 b).forceX0)) ∧
      (w.extractLsb' 26 6 = 0x10#6 → b.cp0Usable = true →
        step s = .next (endStep none (b.raise .ri).forceX0)) ∧
      (w.extractLsb' 26 6 = 0x11#6 → b.cu1 = false →
        step s = .next (endStep none (takeException .cpu 1#2 0x180#64 b).forceX0)) ∧
      (w.extractLsb' 26 6 = 0x11#6 → b.cu1 = true →
        ∃ v, HasBits v (fun j => if 12 ≤ j ∧ j ≤ 17 then decide (j = 17) else b.fcr31.getLsbD j) ∧
          step s = .next (endStep none (State.raise { b with fcr31 := v } .fpe).forceX0))

/-- A step without an interrupt runs the instruction decoded from the four bytes at the pc (R220, R222, R224, R112, R113, R130, U12). The model's choice: the cycles a step takes (log entry 14). -/
def Obligations.StepRunsDecodedInstruction : Prop :=
  ∀ (s : State) (pa : PAddr) (i : Instr),
    let b := beginStep s
    b.interruptTaken = false →
      (AccessOk b .fetch b.pc 4 pa → decode (BitVec.ofNat 32 (numberAt b pa.toNat 4)) = .instr i →
        (∀ t, exec i b = .next t →
          let u : State := { t with x := t.x.set 0 0#64 }
          step s = .next { advance u with
            cycles := u.cycles + 1 + Config.extraCycles (some i), draws := u.draws + 1 }) ∧
        (∀ q, exec i b = .refused q → step s = .refused q)) ∧
      (b.pc.toNat % 4 ≠ 0 ∨ translate b .fetch b.pc = .error →
        step s = .next (endStep none (b.raiseAddressError .fetch b.pc).forceX0)) ∧
      (∀ m, b.pc.toNat % 4 = 0 → translate b .fetch b.pc = .miss m →
        step s = .next (endStep none (b.raiseTlb m .fetch b.pc).forceX0)) ∧
      (b.pc.toNat % 4 = 0 → translate b .fetch b.pc = .undefinedMask → step s = .refused .undefinedPageMask)

/-- An enabled, unmasked, pending interrupt is taken before the fetch, with code 0 at the general vector (R640, R641, R220). The model's choice: the inputs of the boundary come before the test (log entry 5). -/
def Obligations.InterruptTakenAtBoundary : Prop :=
  ∀ s : State,
    let b := beginStep s
    let line : Nat → Bool := fun j =>
      if j < 2 then b.cp0.cause.getLsbD (8 + j) else if j < 7 then b.extIrq.getLsbD (j - 2)
      else b.extIrq.getLsbD 5 || b.timerPending
    (b.interruptTaken = true ↔
      b.cp0.status.getLsbD 0 = true ∧ b.cp0.status.getLsbD 1 = false ∧ b.cp0.status.getLsbD 2 = false ∧
        ∃ j, j < 8 ∧ line j = true ∧ b.cp0.status.getLsbD (8 + j) = true) ∧
    (b.interruptTaken = true → ∃ t, step s = .next t ∧
      t.cp0.epc = (if b.bstate = .delay then b.pc - 4#64 else b.pc) ∧
      t.cp0.status = (b.cp0.status ||| 2#32) ∧ t.cp0.cause.extractLsb' 2 5 = 0#5 ∧
      (t.cp0.cause.getLsbD 31 = decide (b.bstate = .delay)) ∧
      t.pc = (if b.cp0.status.getLsbD 22 then 0xFFFFFFFFBFC00380#64 else 0xFFFFFFFF80000180#64) ∧
      t.bstate = .none ∧ t.x = b.x ∧ t.mem = b.mem ∧ t.tlb = b.tlb ∧ t.llbit = b.llbit)

/-- The delay-state table: what the advance does to the pc and to bstate, and to nothing else (R221). -/
def Obligations.AdvanceTable : Prop :=
  ∀ s : State,
    (s.bstate = .none → advance s = { s with pc := s.pc + 4#64 }) ∧
    (s.bstate = .delay → advance s = { s with pc := s.btarget, bstate := .none }) ∧
    (s.bstate = .branch → advance s = { s with pc := s.pc + 4#64, bstate := .delay }) ∧
    (s.bstate = .exception → advance s = { s with bstate := .none }) ∧
    (s.bstate = .nullify → advance s = { s with pc := s.pc + 8#64, bstate := .none })

/-- Every step keeps the machine's invariant (R20, R29, R30, R31, R33, R40, R101, R220). -/
def Obligations.StepKeepsInvariant : Prop :=
  ∀ s t : State, s.Inv → step s = .next t → t.Inv

/-- The state after reset meets the invariant (R690, R29). -/
def Obligations.ResetMeetsInvariant : Prop :=
  State.reset.Inv

/-- What reset sets, at construction and when the reset input is applied later (R690, R692, R55). The model's choice: a later reset keeps ErrorEPC, as R55 says (log entry 7). -/
def Obligations.ResetValues : Prop :=
  (State.reset.pc = 0xFFFFFFFFBFC00000#64 ∧ State.reset.cp0.status = 0x00400004#32 ∧
      State.reset.cp0.wired = 0#32 ∧ State.reset.bstate = .none ∧ State.reset.llbit = false ∧
      State.reset.getX 0 = 0#64 ∧ State.reset.cp0.config = State.reset.params.configReset ∧
      State.reset.kernelMode = true ∧ State.reset.interruptTaken = false) ∧
    ∀ s : State,
      let t := applyInput s .reset
      t.pc = 0xFFFFFFFFBFC00000#64 ∧ t.cp0.status = 0x00400004#32 ∧ t.cp0.wired = 0#32 ∧ t.bstate = .none ∧
        t.llbit = false ∧ t.x[0] = 0#64 ∧ t.cp0.config = s.params.configReset ∧ t.countZero = s.cycles ∧
        t.timerSeen = s.cycles ∧ t.tlb = s.tlb ∧ t.mem = s.mem ∧ t.cycles = s.cycles ∧ t.extIrq = s.extIrq ∧
        t.cp0.errorEpc = s.cp0.errorEpc ∧ t.params = s.params

/-- Only TLBWI and TLBWR change a TLB entry (R39, R448, R449). -/
def Obligations.TlbChangedOnlyByTlbWrites : Prop :=
  (∀ (i : Instr) (s t : State), exec i s = .next t → i ≠ .tlbwi → i ≠ .tlbwr → t.tlb = s.tlb) ∧
    (∀ (k : ReservedKind) (s t : State), execReserved k s = .next t → t.tlb = s.tlb) ∧
    (∀ s : State, (beginStep s).tlb = s.tlb) ∧ (∀ (o : Option Instr) (s : State), (endStep o s).tlb = s.tlb) ∧
    (∀ (s t : State) (va : DWord), fetch s va = .raised t → t.tlb = s.tlb) ∧
    (∀ s t : State, step s = .next t → t.tlb ≠ s.tlb →
      let b := beginStep s
      b.interruptTaken = false ∧ ∃ pa, AccessOk b .fetch b.pc 4 pa ∧
        (decode (BitVec.ofNat 32 (numberAt b pa.toNat 4)) = .instr .tlbwi ∨
          decode (BitVec.ofNat 32 (numberAt b pa.toNat 4)) = .instr .tlbwr))

/-- Outside kernel mode with CU0 = 0 the system state changes only by taking an exception (R650, R651, R440, R621). -/
def Obligations.UserModeIsolation : Prop :=
  ∀ (i : Instr) (s t : State), s.kernelMode = false → s.cu0 = false → exec i s = .next t →
    (t.tlb = s.tlb ∧ t.countBase = s.countBase ∧ t.countZero = s.countZero ∧
      t.timerPending = s.timerPending ∧ t.params = s.params) ∧
    (t.cp0 = { s.cp0 with llAddr := t.cp0.llAddr } ∨
      (t.bstate = .exception ∧ t.cp0.status = (s.cp0.status ||| 2#32) ∧ t.kernelMode = true ∧
        ∃ o, (o = 0x000#64 ∨ o = 0x080#64 ∨ o = 0x180#64) ∧
          t.pc = (if s.bev then 0xFFFFFFFFBFC00200#64 else 0xFFFFFFFF80000000#64) + o))

/-- A write to a byte of the observed line removes the load-linked observer (R142, R385). -/
def Obligations.ObserverRemovedByWrites : Prop :=
  (∀ (i : Instr) (s t : State) (a : Nat), s.llbit = true → exec i s = .next t → s.inLine a = true →
      Memory.readByte t.mem a ≠ Memory.readByte s.mem a → t.llbit = false) ∧
    (∀ (s : State) (pa : PAddr) (v : Byte),
      (applyInput s (.busWrite pa v)).llbit = (s.llbit && !s.inLine pa.toNat))

/-- What taking an exception saves, changes and leaves alone (R621, R620, R53). -/
def Obligations.ExceptionEntry : Prop :=
  (∀ (c : ExcCode) (ce : BitVec 2) (o : DWord) (s : State),
      let t := takeException c ce o s
      t = { s with
        cp0 := { s.cp0 with cause := t.cp0.cause, epc := t.cp0.epc, status := t.cp0.status }
        pc := (if s.cp0.status.getLsbD 22 then 0xFFFFFFFFBFC00200#64 else 0xFFFFFFFF80000000#64) + o
        bstate := .exception } ∧
      (s.cp0.status.getLsbD 1 = false →
        t.cp0.epc = (if s.bstate = .delay then s.pc - 4#64 else s.pc) ∧
          t.cp0.cause.getLsbD 31 = decide (s.bstate = .delay) ∧
          HasBits t.cp0.status fun j => if j = 1 then true else s.cp0.status.getLsbD j) ∧
      (s.cp0.status.getLsbD 1 = true →
        t.cp0.epc = s.cp0.epc ∧ t.cp0.status = s.cp0.status ∧
          t.cp0.cause.getLsbD 31 = s.cp0.cause.getLsbD 31) ∧
      HasBits t.cp0.cause fun j =>
        if j = 31 then t.cp0.cause.getLsbD 31
        else if 2 ≤ j ∧ j ≤ 6 then (excNumber c).getLsbD (j - 2)
        else if 28 ≤ j ∧ j ≤ 29 then ce.getLsbD (j - 28) else s.cp0.cause.getLsbD j) ∧
    ([ExcCode.int, .mod, .tlbl, .tlbs, .adel, .ades, .sys, .bp, .ri, .cpu, .ov, .tr, .fpe, .watch].map
        fun c => (excNumber c).toNat) = [0, 1, 2, 3, 4, 5, 8, 9, 10, 11, 12, 13, 15, 23]

/-- The address each exception goes to, and the code of each TLB exception (R622, R130, R113). -/
def Obligations.ExceptionVectors : Prop :=
  ∀ (s : State) (va : DWord) (k : AccessKind) (c : ExcCode) (m : TlbMiss),
    let base : DWord := if s.cp0.status.getLsbD 22 then 0xFFFFFFFFBFC00200#64 else 0xFFFFFFFF80000000#64
    (s.raise c).pc = base + 0x180#64 ∧ (s.raiseCpU 0#2).pc = base + 0x180#64 ∧
      (s.raiseTlb .refill k va).pc =
        base + (if s.cp0.status.getLsbD 1 then 0x180#64 else if s.addr64 then 0x080#64 else 0x000#64) ∧
      (s.raiseTlb .invalid k va).pc = base + 0x180#64 ∧ (s.raiseTlb .modify k va).pc = base + 0x180#64 ∧
      (s.raiseTlb m k va).cp0.cause.extractLsb' 2 5 =
        (if m = .modify then 1#5 else if k = .store then 3#5 else 2#5) ∧
      s.raiseAddressError k va =
        State.raise { s with cp0 := { s.cp0 with badVAddr := va } } (if k = .store then .ades else .adel)

/-- How each load and store ends when an access check fails, in the order of the checks (R110, R111, R113, R115, R116, R363, R385, R386, R481, U12). The model's choices: undefined when any entry's Mask is illegal (log entry 10); LDC1 makes its access before, SDC1 after an odd register with FR = 0 is refused (log entry 11). -/
def Obligations.DataAccessExceptions : Prop :=
  ∀ (s : State) (rt base : Reg) (ft : FReg) (off : BitVec 16),
    let va := addressOf s base off
    let q : State := { s with llbit := false }
    (AccessFaults s (exec (.lb rt base off) s) .load va 1 ∧ AccessFaults s (exec (.lbu rt base off) s) .load va 1 ∧
      AccessFaults s (exec (.lh rt base off) s) .load va 2 ∧ AccessFaults s (exec (.lhu rt base off) s) .load va 2 ∧
      AccessFaults s (exec (.lw rt base off) s) .load va 4 ∧ AccessFaults s (exec (.ll rt base off) s) .load va 4 ∧
      AccessFaults s (exec (.sb rt base off) s) .store va 1 ∧ AccessFaults s (exec (.sh rt base off) s) .store va 2 ∧
      AccessFaults s (exec (.sw rt base off) s) .store va 4 ∧
      (s.llbit = true → AccessFaults q (exec (.sc rt base off) s) .store va 4) ∧
      PartFaults s (exec (.lwl rt base off) s) .load va ∧ PartFaults s (exec (.lwr rt base off) s) .load va ∧
      PartFaults s (exec (.swl rt base off) s) .store va ∧ PartFaults s (exec (.swr rt base off) s) .store va) ∧
    (s.ops64 = true →
      AccessFaults s (exec (.lwu rt base off) s) .load va 4 ∧ AccessFaults s (exec (.ld rt base off) s) .load va 8 ∧
        AccessFaults s (exec (.lld rt base off) s) .load va 8 ∧ AccessFaults s (exec (.sd rt base off) s) .store va 8 ∧
        (s.llbit = true → AccessFaults q (exec (.scd rt base off) s) .store va 8) ∧
        PartFaults s (exec (.ldl rt base off) s) .load va ∧ PartFaults s (exec (.ldr rt base off) s) .load va ∧
        PartFaults s (exec (.sdl rt base off) s) .store va ∧ PartFaults s (exec (.sdr rt base off) s) .store va) ∧
    (s.cu1 = true →
      AccessFaults s (exec (.lwc1 ft base off) s) .load va 4 ∧ AccessFaults s (exec (.ldc1 ft base off) s) .load va 8 ∧
        AccessFaults s (exec (.swc1 ft base off) s) .store va 4 ∧
        Needs64 s ft (exec (.sdc1 ft base off) s) (AccessFaults s (exec (.sdc1 ft base off) s) .store va 8))

/-- The registers every TLB exception writes before it is raised (R131). -/
def Obligations.TlbExceptionRegisters : Prop :=
  ∀ (s : State) (m : TlbMiss) (k : AccessKind) (va : DWord),
    let t := s.raiseTlb m k va
    t.cp0.badVAddr = va ∧
      (∀ j, j < 64 → t.cp0.entryHi.getLsbD j =
        if j < 8 then s.cp0.entryHi.getLsbD j
        else if (13 ≤ j ∧ j ≤ 39) ∨ 62 ≤ j then va.getLsbD j else false) ∧
      (∀ j, j < 64 → t.cp0.context.getLsbD j =
        if 4 ≤ j ∧ j ≤ 22 then va.getLsbD (j + 9) else s.cp0.context.getLsbD j) ∧
      (∀ j, j < 64 → t.cp0.xContext.getLsbD j =
        if 31 ≤ j ∧ j ≤ 32 then va.getLsbD (j + 31)
        else if 4 ≤ j ∧ j ≤ 30 then va.getLsbD (j + 9) else s.cp0.xContext.getLsbD j)

/-- The timer update sets the request exactly when Count became equal to Compare since the last update (R642, R31, R50). -/
def Obligations.TimerRequest : Prop :=
  ∀ s : State,
    let t := updateTimer s
    t = { s with timerPending := t.timerPending, timerSeen := s.cycles } ∧
      (t.timerPending = true ↔ s.timerPending = true ∨
        ∃ c, s.timerSeen < c ∧ c ≤ s.cycles ∧ s.countZero < c ∧ (c - s.countZero) % 2 = 0 ∧
          (s.countBase.toNat + (c - s.countZero) / 2) % 2 ^ 32 = s.cp0.compare.toNat)

/-- ERET returns from the error level first, then from the exception level, and removes the observer (R623). -/
def Obligations.EretReturns : Prop :=
  ∀ s : State, s.cp0Usable = true →
    ∃ t, exec .eret s = .next t ∧
      t = { s with
        pc := if s.cp0.status.getLsbD 2 then s.cp0.errorEpc else s.cp0.epc
        cp0 := { s.cp0 with status := t.cp0.status }
        bstate := .exception
        llbit := false } ∧
      HasBits t.cp0.status fun j =>
        if s.cp0.status.getLsbD 2 then (if j = 2 then false else s.cp0.status.getLsbD j)
        else (if j = 1 then false else s.cp0.status.getLsbD j)

/-- The completion of a floating-point operation: Cause overwritten, FPE when enabled, otherwise Flag accumulated and the commit made (R482). -/
def Obligations.FpFinishRule : Prop :=
  ∀ (s : State) (fl : FpFlags) (commit : State → Result),
    (Enabled s fl → TrapsFpe s (fpFinish s fl commit) fl) ∧
    (¬Enabled s fl → ∃ w, CauseAndFlagsAre s.fcr31 w fl ∧ fpFinish s fl commit = commit { s with fcr31 := w })

/-- A translation keeps the address bits below the page size (R129, R127). -/
def Obligations.TranslationKeepsPageOffset : Prop :=
  ∀ (s : State) (k : AccessKind) (va : DWord) (pa : PAddr) (p : Policy), translate s k va = .ok pa p →
    pa.toNat % 2 ^ 12 = va.toNat % 2 ^ 12 ∧
      (classify s va = .mapped → ∃ i : Fin 48, entryMatches s.addr64 s.asid va s.tlb[i.val] = true ∧
        ∀ j, j < 12 ∨ (j < 24 ∧ s.tlb[i.val].mask.getLsbD (j - 12) = true) → pa.getLsbD j = va.getLsbD j)

/-- What user, supervisor and kernel mode reach: every segment mapped, unmapped at its physical address, or an error (R121, R122, R123, R124). -/
def Obligations.UserSegments : Prop :=
  ∀ (s : State) (k : AccessKind) (va : DWord),
    let v := va.toNat
    let slice : Nat → Policy → Segment := fun n p => .unmapped (BitVec.ofNat 36 (v % 2 ^ n)) p
    let compat : Segment :=
      if 0xFFFFFFFF80000000 ≤ v ∧ v ≤ 0xFFFFFFFF9FFFFFFF then slice 29 .cached
      else if 0xFFFFFFFFA0000000 ≤ v ∧ v ≤ 0xFFFFFFFFBFFFFFFF then slice 29 .uncached
      else if 0xFFFFFFFFC0000000 ≤ v then .mapped else .error
    (s.userMode = true →
      (s.ux = false → classify s va = if v ≤ 0x7FFFFFFF then .mapped else .error) ∧
      (s.ux = true → classify s va = if v ≤ 0xFFFFFFFFFF then .mapped else .error)) ∧
    (s.supervisorMode = true →
      (s.sx = false → classify s va =
        if v ≤ 0x7FFFFFFF ∨ (0xFFFFFFFFC0000000 ≤ v ∧ v ≤ 0xFFFFFFFFDFFFFFFF) then .mapped else .error) ∧
      (s.sx = true → classify s va =
        if v ≤ 0xFFFFFFFFFF ∨ (0x4000000000000000 ≤ v ∧ v ≤ 0x400000FFFFFFFFFF) ∨
          (0xFFFFFFFFC0000000 ≤ v ∧ v ≤ 0xFFFFFFFFDFFFFFFF) then .mapped else .error)) ∧
    (s.kernelMode = true →
      (s.kx = false → classify s va =
        if v ≤ 0x7FFFFFFF then (if s.cp0.status.getLsbD 2 then slice 31 .uncached else .mapped) else compat) ∧
      (s.kx = true → classify s va =
        if v ≤ 0xFFFFFFFFFF then
          (if s.cp0.status.getLsbD 2 = true ∧ v < 0x80000000 then slice 31 .uncached else .mapped)
        else if 0x4000000000000000 ≤ v ∧ v ≤ 0x400000FFFFFFFFFF then .mapped
        else if 0x8000000000000000 ≤ v ∧ v ≤ 0xBFFFFFFFFFFFFFFF then
          (if v / 2 ^ 36 % 2 ^ 23 ≠ 0 then .error else slice 36 (if v / 2 ^ 59 % 8 = 2 then .uncached else .cached))
        else if 0xC000000000000000 ≤ v ∧ v ≤ 0xC00000FF7FFFFFFF then .mapped
        else compat)) ∧
    (∀ pa p, classify s va = .unmapped pa p → translate s k va = .ok pa p) ∧
    (classify s va = .error → translate s k va = .error)

/-- When a TLB entry matches an address (R126). -/
def Obligations.EntryMatchRule : Prop :=
  ∀ (s : State) (va : DWord) (i : Fin 48),
    let e := s.tlb[i.val]
    i ∈ s.matching va ↔
      (∀ j, 13 ≤ j → j ≤ (if s.addr64 then 39 else 31) → ¬(j ≤ 24 ∧ e.mask.getLsbD (j - 13) = true) →
        va.getLsbD j = e.vpn2.getLsbD (j - 13)) ∧
      (s.addr64 = true → va.extractLsb' 62 2 = e.r) ∧ (e.g = true ∨ e.asid = s.cp0.entryHi.extractLsb' 0 8)

/-- The outcome for a mapped address: refill, invalid, modify, or the frame of the even or odd page (R125, R127, R128, R45). The model's choice: defined when every entry's Mask is legal (log entry 10). -/
def Obligations.MappedTranslation : Prop :=
  ∀ (s : State) (k : AccessKind) (va : DWord), classify s va = .mapped → s.tlbMasksLegal = true →
    (s.matching va = [] → translate s k va = .miss .refill) ∧
    (s.matching va ≠ [] → ∃ i ∈ s.matching va, ∃ n : Nat, n ≤ 6 ∧
      s.tlb[i.val].mask = BitVec.ofNat 12 (4 ^ n - 1) ∧
      let bits := 12 + 2 * n
      let lo := if va.toNat / 2 ^ bits % 2 = 1 then s.tlb[i.val].lo1 else s.tlb[i.val].lo0
      (lo.v = false → translate s k va = .miss .invalid) ∧
      (lo.v = true → k = .store → lo.d = false → translate s k va = .miss .modify) ∧
      (lo.v = true → (k ≠ .store ∨ lo.d = true) → ∃ pa, translate s k va =
          .ok pa (if lo.c = 2#3 then .uncached else .cached) ∧
        pa.toNat = lo.pfn.toNat * 2 ^ 12 / 2 ^ bits * 2 ^ bits + va.toNat % 2 ^ bits))

/-- Every coprocessor-0 and coprocessor-1 instruction raises CpU when its coprocessor is not usable (R440, R480, R426, R18). -/
def Obligations.CoprocessorUnusable : Prop :=
  ∀ (i : Instr) (s : State),
    let opcode := (tableRow i).2.extractLsb' 26 6
    ((opcode = 0x10#6 ∨ opcode = 0x2F#6) → s.kernelMode = false → s.cu0 = false →
      exec i s = .next (takeException .cpu 0#2 0x180#64 s)) ∧
    ((opcode = 0x11#6 ∨ opcode = 0x31#6 ∨ opcode = 0x35#6 ∨ opcode = 0x39#6 ∨ opcode = 0x3D#6) →
      s.cu1 = false → exec i s = .next (takeException .cpu 1#2 0x180#64 s))

/-- Every 64-bit operation raises RI when 64-bit operations are not allowed (R194, R18). -/
def Obligations.WideOperationsNeedOps64 : Prop :=
  ∀ (s : State) (a b c : Reg) (n : CReg) (g : FReg) (imm : BitVec 16) (sa : Nat),
    s.kernelMode = false → s.addr64 = false →
    (∀ i ∈ [Instr.dadd a b c, .daddu a b c, .dsub a b c, .dsubu a b c, .daddi a b imm, .daddiu a b imm,
        .dsll a b sa, .dsrl a b sa, .dsra a b sa, .dsll32 a b sa, .dsrl32 a b sa, .dsra32 a b sa,
        .dsllv a b c, .dsrlv a b c, .dsrav a b c, .dmult a b, .dmultu a b, .ddiv a b, .ddivu a b,
        .ld a b imm, .sd a b imm, .ldl a b imm, .ldr a b imm, .sdl a b imm, .sdr a b imm, .lwu a b imm,
        .lld a b imm, .scd a b imm], exec i s = .next (s.raise .ri)) ∧
    (s.cu0 = true → ∀ i ∈ [Instr.dmfc0 a n, .dmtc0 a n], exec i s = .next (s.raise .ri)) ∧
    (s.cu1 = true → ∀ i ∈ [Instr.dmfc1 a g, .dmtc1 a g], exec i s = .next (s.raise .ri))

/-- ADDU, SUBU, ADDIU, DADDU, DSUBU, DADDIU: result, frame, completion (R242, R244, R256, R246, R248, R258, R20). -/
def Obligations.WrappingSums : Prop :=
  ∀ (s : State) (d a b : Reg) (imm : BitVec 16),
    WritesX s (exec (.addu d a b) s) d (wordOf (lowInt (s.getX a) + lowInt (s.getX b))) ∧
    WritesX s (exec (.subu d a b) s) d (wordOf (lowInt (s.getX a) - lowInt (s.getX b))) ∧
    WritesX s (exec (.addiu d a imm) s) d (wordOf (lowInt (s.getX a) + imm.toInt)) ∧
    (s.ops64 = true →
      WritesX s (exec (.daddu d a b) s) d (dwordOf ((s.getX a).toInt + (s.getX b).toInt)) ∧
      WritesX s (exec (.dsubu d a b) s) d (dwordOf ((s.getX a).toInt - (s.getX b).toInt)) ∧
      WritesX s (exec (.daddiu d a imm) s) d (dwordOf ((s.getX a).toInt + imm.toInt)))

/-- ADD, SUB, ADDI, DADD, DSUB, DADDI: the exact sum when it fits, Ov with nothing written otherwise (R240, R241, R243, R255, R245, R247, R257). -/
def Obligations.TrappingSums : Prop :=
  ∀ (s : State) (d a b : Reg) (imm : BitVec 16),
    SumOrTrap 32 s (exec (.add d a b) s) d (lowInt (s.getX a) + lowInt (s.getX b)) ∧
    SumOrTrap 32 s (exec (.sub d a b) s) d (lowInt (s.getX a) - lowInt (s.getX b)) ∧
    SumOrTrap 32 s (exec (.addi d a imm) s) d (lowInt (s.getX a) + imm.toInt) ∧
    (s.ops64 = true →
      SumOrTrap 64 s (exec (.dadd d a b) s) d ((s.getX a).toInt + (s.getX b).toInt) ∧
      SumOrTrap 64 s (exec (.dsub d a b) s) d ((s.getX a).toInt - (s.getX b).toInt) ∧
      SumOrTrap 64 s (exec (.daddi d a imm) s) d ((s.getX a).toInt + imm.toInt))

/-- AND, OR, XOR, NOR, ANDI, ORI, XORI, LUI: every bit of the result, frame, completion (R249, R250, R251, R252, R261, R262, R263, R264). -/
def Obligations.BitwiseLogic : Prop :=
  ∀ (s : State) (d a b : Reg) (imm : BitVec 16),
    let p : Nat → Bool := fun j => (s.getX a).getLsbD j
    let q : Nat → Bool := fun j => (s.getX b).getLsbD j
    let m : Nat → Bool := fun j => decide (imm.toNat / 2 ^ j % 2 = 1)
    WritesBits s (exec (.and d a b) s) d (fun j => p j && q j) ∧
    WritesBits s (exec (.or d a b) s) d (fun j => p j || q j) ∧
    WritesBits s (exec (.xor d a b) s) d (fun j => p j ^^ q j) ∧
    WritesBits s (exec (.nor d a b) s) d (fun j => !(p j || q j)) ∧
    WritesBits s (exec (.andi d a imm) s) d (fun j => p j && m j) ∧
    WritesBits s (exec (.ori d a imm) s) d (fun j => p j || m j) ∧
    WritesBits s (exec (.xori d a imm) s) d (fun j => p j ^^ m j) ∧
    WritesX s (exec (.lui d imm) s) d (dwordOf (imm.toInt * 2 ^ 16))

/-- SLT, SLTU, SLTI, SLTIU: 1 or 0, frame, completion (R253, R254, R259, R260). -/
def Obligations.SetOnLess : Prop :=
  ∀ (s : State) (d a b : Reg) (imm : BitVec 16),
    WritesX s (exec (.slt d a b) s) d (if (s.getX a).toInt < (s.getX b).toInt then 1#64 else 0#64) ∧
    WritesX s (exec (.sltu d a b) s) d (if (s.getX a).toNat < (s.getX b).toNat then 1#64 else 0#64) ∧
    WritesX s (exec (.slti d a imm) s) d (if (s.getX a).toInt < imm.toInt then 1#64 else 0#64) ∧
    WritesX s (exec (.sltiu d a imm) s) d
      (if ((s.getX a).toNat : Int) < imm.toInt % 2 ^ 64 then 1#64 else 0#64)

/-- SLL, SRL, SRA, SLLV, SRLV, SRAV: result, frame, completion (R280, R281, R282, R283, R284, R285, R286). -/
def Obligations.WordShifts : Prop :=
  ∀ (s : State) (d a b : Reg) (sa : Nat), sa < 32 →
    let v := s.getX a
    let n := (s.getX b).toNat % 32
    WritesX s (exec (.sll d a sa) s) d (wordOf (lowNat v * 2 ^ sa)) ∧
    WritesX s (exec (.srl d a sa) s) d (wordOf (lowNat v / 2 ^ sa)) ∧
    WritesX s (exec (.sra d a sa) s) d (wordOf (lowInt v / 2 ^ sa)) ∧
    WritesX s (exec (.sllv d a b) s) d (wordOf (lowNat v * 2 ^ n)) ∧
    WritesX s (exec (.srlv d a b) s) d (wordOf (lowNat v / 2 ^ n)) ∧
    WritesX s (exec (.srav d a b) s) d (wordOf (lowInt v / 2 ^ n))

/-- The nine 64-bit shifts: result, frame, completion (R287, R288, R289, R290, R291, R292, R293, R294, R295). -/
def Obligations.DoublewordShifts : Prop :=
  ∀ (s : State) (d a b : Reg) (sa : Nat), sa < 32 → s.ops64 = true →
    let v := s.getX a
    let n := (s.getX b).toNat % 64
    WritesX s (exec (.dsll d a sa) s) d (dwordOf (v.toNat * 2 ^ sa)) ∧
    WritesX s (exec (.dsrl d a sa) s) d (dwordOf (v.toNat / 2 ^ sa)) ∧
    WritesX s (exec (.dsra d a sa) s) d (dwordOf (v.toInt / 2 ^ sa)) ∧
    WritesX s (exec (.dsll32 d a sa) s) d (dwordOf (v.toNat * 2 ^ (sa + 32))) ∧
    WritesX s (exec (.dsrl32 d a sa) s) d (dwordOf (v.toNat / 2 ^ (sa + 32))) ∧
    WritesX s (exec (.dsra32 d a sa) s) d (dwordOf (v.toInt / 2 ^ (sa + 32))) ∧
    WritesX s (exec (.dsllv d a b) s) d (dwordOf (v.toNat * 2 ^ n)) ∧
    WritesX s (exec (.dsrlv d a b) s) d (dwordOf (v.toNat / 2 ^ n)) ∧
    WritesX s (exec (.dsrav d a b) s) d (dwordOf (v.toInt / 2 ^ n))

/-- MULT, MULTU, DMULT, DMULTU, MFHI, MTHI, MFLO, MTLO: HI and LO, frame, completion (R300, R301, R302, R305, R306, R309, R310, R311, R312). -/
def Obligations.ProductsAndHiLoMoves : Prop :=
  ∀ (s : State) (a b d : Reg),
    let x := s.getX a
    let y := s.getX b
    WritesHiLo s (exec (.mult a b) s) (wordOf (lowInt x * lowInt y / 2 ^ 32)) (wordOf (lowInt x * lowInt y)) ∧
    WritesHiLo s (exec (.multu a b) s) (wordOf ((lowNat x * lowNat y / 2 ^ 32 : Nat) : Int))
      (wordOf ((lowNat x * lowNat y : Nat) : Int)) ∧
    (s.ops64 = true →
      WritesHiLo s (exec (.dmult a b) s) (dwordOf (x.toInt * y.toInt / 2 ^ 64)) (dwordOf (x.toInt * y.toInt)) ∧
      WritesHiLo s (exec (.dmultu a b) s) (dwordOf ((x.toNat * y.toNat / 2 ^ 64 : Nat) : Int))
        (dwordOf ((x.toNat * y.toNat : Nat) : Int))) ∧
    WritesX s (exec (.mfhi d) s) d s.hi ∧ WritesX s (exec (.mflo d) s) d s.lo ∧
    WritesHiLo s (exec (.mthi a) s) x s.lo ∧ WritesHiLo s (exec (.mtlo a) s) s.hi x

/-- DIV, DIVU, DDIV, DDIVU: HI and LO, the zero divisor, frame, completion (R300, R303, R304, R307, R308). -/
def Obligations.Quotients : Prop :=
  ∀ (s : State) (a b : Reg),
    let x := s.getX a
    let y := s.getX b
    (lowNat y = 0 → exec (.div a b) s = .next s ∧ exec (.divu a b) s = .next s) ∧
    (lowNat y ≠ 0 →
      WritesHiLo s (exec (.div a b) s) (wordOf ((lowInt x).tmod (lowInt y))) (wordOf ((lowInt x).tdiv (lowInt y))) ∧
      WritesHiLo s (exec (.divu a b) s) (wordOf ((lowNat x % lowNat y : Nat) : Int))
        (wordOf ((lowNat x / lowNat y : Nat) : Int))) ∧
    (s.ops64 = true → y = 0#64 → exec (.ddiv a b) s = .next s ∧ exec (.ddivu a b) s = .next s) ∧
    (s.ops64 = true → y ≠ 0#64 →
      WritesHiLo s (exec (.ddiv a b) s) (dwordOf (x.toInt.tmod y.toInt)) (dwordOf (x.toInt.tdiv y.toInt)) ∧
      WritesHiLo s (exec (.ddivu a b) s) (dwordOf ((x.toNat % y.toNat : Nat) : Int))
        (dwordOf ((x.toNat / y.toNat : Nat) : Int)))

/-- J, JAL, JR, JALR, BLTZAL, BGEZAL, BLTZALL, BGEZALL: target, link, frame, completion (R320, R323, R324, R325, R326, R327, R340, R341, R342, R343). The model's choice: JR and JALR wrap their target, as R326 and R327 say and D10 does not (log entry 21). -/
def Obligations.JumpsAndLinks : Prop :=
  ∀ (s : State) (d a : Reg) (target : BitVec 26) (off : BitVec 16),
    let region : DWord := BitVec.ofNat 64 ((s.pc + 4#64).toNat / 2 ^ 28 * 2 ^ 28 + 4 * target.toNat)
    let reg := wrapAddress s (s.getX a).toInt
    let neg := (s.getX a).toInt < 0
    let rel := relativeTarget s off
    Jumps s (exec (.j target) s) region ∧ LinksAnd s (exec (.jal target) s) 31 .branch region ∧
    Jumps s (exec (.jr a) s) reg ∧ LinksAnd s (exec (.jalr d a) s) d .branch reg ∧
    (neg → LinksAnd s (exec (.bltzal a off) s) 31 .branch rel ∧ LinksAnd s (exec (.bltzall a off) s) 31 .branch rel ∧
      LinksAnd s (exec (.bgezal a off) s) 31 s.bstate s.btarget ∧
      LinksAnd s (exec (.bgezall a off) s) 31 .nullify s.btarget) ∧
    (¬neg → LinksAnd s (exec (.bgezal a off) s) 31 .branch rel ∧ LinksAnd s (exec (.bgezall a off) s) 31 .branch rel ∧
      LinksAnd s (exec (.bltzal a off) s) 31 s.bstate s.btarget ∧
      LinksAnd s (exec (.bltzall a off) s) 31 .nullify s.btarget)

/-- The ordinary and likely conditional branches: condition, target, nullification, frame, completion (R320, R321, R322, R328, R330, R332, R336, R338, R490, R492). -/
def Obligations.ConditionalBranches : Prop :=
  ∀ (s : State) (a b : Reg) (off : BitVec 16),
    let x := (s.getX a).toInt
    let y := (s.getX b).toInt
    let target := relativeTarget s off
    let c := s.fcr31.toNat / 2 ^ 23 % 2
    Branches s (exec (.beq a b off) s) (x = y) target ∧ Branches s (exec (.bne a b off) s) (x ≠ y) target ∧
    Branches s (exec (.blez a off) s) (x ≤ 0) target ∧ Branches s (exec (.bgtz a off) s) (0 < x) target ∧
    Branches s (exec (.bltz a off) s) (x < 0) target ∧ Branches s (exec (.bgez a off) s) (0 ≤ x) target ∧
    BranchesLikely s (exec (.beql a b off) s) (x = y) target ∧
    BranchesLikely s (exec (.bnel a b off) s) (x ≠ y) target ∧
    BranchesLikely s (exec (.blezl a off) s) (x ≤ 0) target ∧
    BranchesLikely s (exec (.bgtzl a off) s) (0 < x) target ∧
    BranchesLikely s (exec (.bltzl a off) s) (x < 0) target ∧
    BranchesLikely s (exec (.bgezl a off) s) (0 ≤ x) target ∧
    (s.cu1 = true →
      Branches s (exec (.bc1f off) s) (c = 0) target ∧ Branches s (exec (.bc1t off) s) (c = 1) target ∧
      BranchesLikely s (exec (.bc1fl off) s) (c = 0) target ∧ BranchesLikely s (exec (.bc1tl off) s) (c = 1) target)

/-- LB, LBU, LH, LHU, LW, LWU, LD: the value from the bytes, frame, completion (R104, R108, R110, R360, R361, R364, R368, R370). -/
def Obligations.AlignedLoads : Prop :=
  ∀ (s : State) (rt base : Reg) (off : BitVec 16) (pa : PAddr),
    let va := addressOf s base off
    let num : Nat → Int := fun n => (numberAt s (firstByte s pa n) n : Nat)
    (AccessOk s .load va 1 pa →
      WritesX s (exec (.lb rt base off) s) rt (dwordOf (Int.bmod (num 1) (2 ^ 8))) ∧
      WritesX s (exec (.lbu rt base off) s) rt (dwordOf (num 1))) ∧
    (AccessOk s .load va 2 pa →
      WritesX s (exec (.lh rt base off) s) rt (dwordOf (Int.bmod (num 2) (2 ^ 16))) ∧
      WritesX s (exec (.lhu rt base off) s) rt (dwordOf (num 2))) ∧
    (AccessOk s .load va 4 pa →
      WritesX s (exec (.lw rt base off) s) rt (wordOf (num 4)) ∧
      (s.ops64 = true → WritesX s (exec (.lwu rt base off) s) rt (dwordOf (num 4)))) ∧
    (AccessOk s .load va 8 pa → s.ops64 = true →
      WritesX s (exec (.ld rt base off) s) rt (dwordOf (num 8)))

/-- SB, SH, SW, SD: the bytes stored, every other byte, the observer, completion (R105, R108, R111, R142, R362, R371, R372, R373, R374). -/
def Obligations.AlignedStores : Prop :=
  ∀ (s : State) (rt base : Reg) (off : BitVec 16) (pa : PAddr), Memory.wf s.mem = true →
    let va := addressOf s base off
    let v := (s.getX rt).toNat
    (AccessOk s .store va 1 pa → Stores s (exec (.sb rt base off) s) (firstByte s pa 1) 1 (v % 2 ^ 8)) ∧
    (AccessOk s .store va 2 pa → Stores s (exec (.sh rt base off) s) (firstByte s pa 2) 2 (v % 2 ^ 16)) ∧
    (AccessOk s .store va 4 pa → Stores s (exec (.sw rt base off) s) (firstByte s pa 4) 4 (v % 2 ^ 32)) ∧
    (AccessOk s .store va 8 pa → s.ops64 = true →
      Stores s (exec (.sd rt base off) s) (firstByte s pa 8) 8 v)

/-- LWL, LWR, LDL, LDR: the bytes merged, frame, completion (R363, R375, R376, R379, R380). -/
def Obligations.PartialLoads : Prop :=
  ∀ (s : State) (rt base : Reg) (off : BitVec 16) (pa : PAddr), PartOk s .load (addressOf s base off) pa →
    LoadsLeft s (exec (.lwl rt base off) s) rt 4 (partByte s pa) ∧
    LoadsRight s (exec (.lwr rt base off) s) rt 4 (partByte s pa) ∧
    (s.ops64 = true →
      LoadsLeft s (exec (.ldl rt base off) s) rt 8 (partByte s pa) ∧
      LoadsRight s (exec (.ldr rt base off) s) rt 8 (partByte s pa))

/-- SWL, SWR, SDL, SDR: the bytes stored, every other byte, the observer, completion (R363, R377, R378, R381, R382, R106). -/
def Obligations.PartialStores : Prop :=
  ∀ (s : State) (rt base : Reg) (off : BitVec 16) (pa : PAddr), Memory.wf s.mem = true →
    PartOk s .store (addressOf s base off) pa →
    let e := partByte s pa
    let v := s.getX rt
    let be := s.params.bigEndian
    StoresPart s (exec (.swl rt base off) s) (e - e % 4) 4 v (fun j => 3 - j) (offsetDown be 4 (e % 4)) ∧
    StoresPart s (exec (.swr rt base off) s) (e - e % 4) 4 v (fun j => j) (offsetUp be 4 (e % 4)) ∧
    (s.ops64 = true →
      StoresPart s (exec (.sdl rt base off) s) (e - e % 8) 8 v (fun j => 7 - j) (offsetDown be 8 (e % 8)) ∧
      StoresPart s (exec (.sdr rt base off) s) (e - e % 8) 8 v (fun j => j) (offsetUp be 8 (e % 8)))

/-- LL, LLD: the load, the observer installed, frame, completion (R141, R383, R384). -/
def Obligations.LoadLinked : Prop :=
  ∀ (s : State) (rt base : Reg) (off : BitVec 16) (pa : PAddr), s.params.legal = true →
    let va := addressOf s base off
    let linked : Result → DWord → Prop := fun r v =>
      ∃ t, r = .next t ∧
        t = { s with x := t.x, llbit := true, llLine := t.llLine,
                     cp0 := { s.cp0 with llAddr := BitVec.ofNat 32 (pa.toNat / 2 ^ 4) } } ∧
        OtherX s t rt ∧ SameMemory s t ∧ (rt ≠ 0 → t.getX rt = v) ∧
        t.llLine.toNat = pa.toNat - pa.toNat % s.params.llLineBytes
    (AccessOk s .load va 4 pa →
      linked (exec (.ll rt base off) s) (wordOf (numberAt s (firstByte s pa 4) 4 : Nat))) ∧
    (AccessOk s .load va 8 pa → s.ops64 = true →
      linked (exec (.lld rt base off) s) (dwordOf (numberAt s (firstByte s pa 8) 8 : Nat)))

/-- SC, SCD: success, failure, the consumed observer, frame, completion (R385, R386, R143). -/
def Obligations.StoreConditional : Prop :=
  ∀ (s : State) (rt base : Reg) (off : BitVec 16) (pa : PAddr), Memory.wf s.mem = true →
    let va := addressOf s base off
    let v := (s.getX rt).toNat
    let stored : Result → Nat → Nat → Prop := fun r n w =>
      ∃ t, r = .next t ∧ t = { s with x := t.x, mem := t.mem, llbit := false } ∧ OtherX s t rt ∧
        (rt ≠ 0 → t.getX rt = 1#64) ∧ numberAt t (firstByte s pa n) n = w ∧
        ∀ b, b < firstByte s pa n ∨ firstByte s pa n + n ≤ b →
          Memory.readByte t.mem b = Memory.readByte s.mem b
    let trapped : Result := .next (State.raiseAddressError { s with llbit := false } .store va)
    (s.llbit = false → WritesX s (exec (.sc rt base off) s) rt 0#64 ∧
      (s.ops64 = true → WritesX s (exec (.scd rt base off) s) rt 0#64)) ∧
    (s.llbit = true →
      (AccessOk s .store va 4 pa → stored (exec (.sc rt base off) s) 4 (v % 2 ^ 32)) ∧
      (va.toNat % 4 ≠ 0 → exec (.sc rt base off) s = trapped) ∧
      (s.ops64 = true → AccessOk s .store va 8 pa → stored (exec (.scd rt base off) s) 8 v) ∧
      (s.ops64 = true → va.toNat % 8 ≠ 0 → exec (.scd rt base off) s = trapped))

/-- The twelve conditional traps: Tr when the condition holds, no effect otherwise (R410, R411, R412, R413, R414, R415, R416, R417, R418, R420, R421, R422). -/
def Obligations.ConditionalTraps : Prop :=
  ∀ (s : State) (a b : Reg) (code : Nat) (imm : BitVec 16),
    let x := (s.getX a).toInt
    let y := (s.getX b).toInt
    let ux : Int := (s.getX a).toNat
    let uy : Int := (s.getX b).toNat
    let i := imm.toInt
    let ui := imm.toInt % 2 ^ 64
    TrapsOn s (exec (.tge a b code) s) (y ≤ x) ∧ TrapsOn s (exec (.tgeu a b code) s) (uy ≤ ux) ∧
    TrapsOn s (exec (.tlt a b code) s) (x < y) ∧ TrapsOn s (exec (.tltu a b code) s) (ux < uy) ∧
    TrapsOn s (exec (.teq a b code) s) (x = y) ∧ TrapsOn s (exec (.tne a b code) s) (x ≠ y) ∧
    TrapsOn s (exec (.tgei a imm) s) (i ≤ x) ∧ TrapsOn s (exec (.tgeiu a imm) s) (ui ≤ ux) ∧
    TrapsOn s (exec (.tlti a imm) s) (x < i) ∧ TrapsOn s (exec (.tltiu a imm) s) (ux < ui) ∧
    TrapsOn s (exec (.teqi a imm) s) (x = i) ∧ TrapsOn s (exec (.tnei a imm) s) (x ≠ i)

/-- SYSCALL, BREAK, SYNC, CACHE: the exception taken, or no effect (R423, R424, R425, R426). -/
def Obligations.SystemInstructions : Prop :=
  ∀ (s : State) (code op : Nat) (base : Reg) (off : BitVec 16),
    exec (.syscall code) s = .next (takeException .sys 0#2 0x180#64 s) ∧
    exec (.breakI code) s = .next (takeException .bp 0#2 0x180#64 s) ∧
    exec .sync s = .next s ∧ (s.cp0Usable = true → exec (.cache op base off) s = .next s)

/-- MFC0, DMFC0: the value of every coprocessor-0 register, frame, completion (R441, R442, R445, R40, R42, R50, R53, R56, R62, R641). -/
def Obligations.MoveFromCp0 : Prop :=
  ∀ (s : State) (rt : Reg) (n : CReg), s.cp0Usable = true →
    let c := s.cp0
    let z : Word → DWord := fun w => BitVec.ofNat 64 w.toNat
    let cells : List (Nat × DWord) :=
      [(0, z c.index), (2, c.entryLo0), (3, c.entryLo1), (4, c.context), (5, z c.pageMask), (6, z c.wired),
        (8, c.badVAddr), (10, c.entryHi), (11, z c.compare), (12, z c.status), (14, c.epc), (15, z s.params.prid),
        (16, z c.config), (17, z c.llAddr), (18, z c.watchLo), (19, z c.watchHi), (20, c.xContext), (26, z c.ecc),
        (27, z c.cacheErr), (28, z c.tagLo), (29, z c.tagHi), (30, c.errorEpc)]
    WritesX s (exec (.mfc0 rt n) s) rt (wordOf (s.rdCp0 n).toInt) ∧
    (s.ops64 = true → WritesX s (exec (.dmfc0 rt n) s) rt (s.rdCp0 n)) ∧
    (∀ p ∈ cells, n.val = p.1 → s.rdCp0 n = p.2) ∧
    (n = 1 → (s.rdCp0 n).toNat < 48 ∧ (c.wired.toNat % 64 < 48 → c.wired.toNat % 64 ≤ (s.rdCp0 n).toNat) ∧
      (48 ≤ c.wired.toNat % 64 → (s.rdCp0 n).toNat = 47)) ∧
    (n = 9 → (s.rdCp0 n).toNat = (s.countBase.toNat + (s.cycles - s.countZero) / 2) % 2 ^ 32) ∧
    (n = 13 → ∀ j, j < 64 → (s.rdCp0 n).getLsbD j =
      if 10 ≤ j ∧ j ≤ 14 then s.extIrq.getLsbD (j - 10)
      else if j = 15 then s.extIrq.getLsbD 5 || s.timerPending
      else if (2 ≤ j ∧ j ≤ 6) ∨ j = 8 ∨ j = 9 ∨ j = 28 ∨ j = 29 ∨ j = 31 then c.cause.getLsbD j else false) ∧
    (n.val = 7 ∨ (21 ≤ n.val ∧ n.val ≤ 25) ∨ n.val = 31 → s.rdCp0 n = 0#64)

/-- MTC0, DMTC0: the writable bits of every coprocessor-0 register, side effects, frame, completion (R443, R444, R40, R41, R43, R45, R50, R51, R53, R57, R62). -/
def Obligations.MoveToCp0 : Prop :=
  ∀ (s : State) (rt : Reg) (n : CReg), s.cp0Usable = true →
    let writable : DWord :=
      [0x8000003F#64, 0#64, 0x3FFFFFFF#64, 0x3FFFFFFF#64, 0xFFFFFFFFFF800000#64, 0x01FFE000#64, 0x3F#64, 0#64,
        0#64, 0xFFFFFFFF#64, 0xC00000FFFFFFE0FF#64, 0xFFFFFFFF#64, 0xFFFFFFFF#64, 0x300#64,
        0xFFFFFFFFFFFFFFFF#64, 0#64, 0x3F#64, 0xFFFFFFFF#64, 0xFFFFFFFB#64, 0xF#64, 0xFFFFFFFE00000000#64, 0#64,
        0#64, 0#64, 0#64, 0#64, 0xFF#64, 0#64, 0xFFFFFFFF#64, 0xFFFFFFFF#64, 0xFFFFFFFFFFFFFFFF#64, 0#64].getD
        n.val 0#64
    let written : Result → DWord → Prop := fun r v =>
      ∃ t, r = .next t ∧
        t = { s with cp0 := t.cp0, countBase := t.countBase, countZero := t.countZero,
                     timerPending := t.timerPending } ∧ SameMemory s t ∧
        (∀ j, j < 64 → (t.rdCp0 n).getLsbD j = if writable.getLsbD j then v.getLsbD j else (s.rdCp0 n).getLsbD j) ∧
        (∀ m, m ≠ n → (n ≠ 6 ∨ m ≠ 1) → (n ≠ 11 ∨ m ≠ 13) → t.rdCp0 m = s.rdCp0 m) ∧
        t.timerPending = (if n = 11 then false else s.timerPending) ∧
        t.countZero = (if n = 9 then s.cycles else s.countZero)
    written (exec (.mtc0 rt n) s) (wordOf (s.getX rt).toInt) ∧
    (s.ops64 = true → written (exec (.dmtc0 rt n) s) (s.getX rt))

/-- TLBR, TLBWI, TLBWR, TLBP: what each moves, the Index out of range, frame, completion (R447, R448, R449, R450, R42, U12). The model's choice: TLBP takes the lowest match, as R450 says (log entry 9). -/
def Obligations.TlbInstructions : Prop :=
  ∀ s : State, s.cp0Usable = true →
    let c := s.cp0
    let i := c.index.toNat % 64
    let w := c.wired.toNat % 64
    let lo : DWord → TlbLo := fun v =>
      ⟨BitVec.ofNat 24 (v.toNat / 2 ^ 6), BitVec.ofNat 3 (v.toNat / 2 ^ 3), v.getLsbD 2, v.getLsbD 1⟩
    let e : TlbEntry :=
      { mask := BitVec.ofNat 12 (c.pageMask.toNat / 2 ^ 13), r := BitVec.ofNat 2 (c.entryHi.toNat / 2 ^ 62)
        vpn2 := BitVec.ofNat 27 (c.entryHi.toNat / 2 ^ 13), asid := BitVec.ofNat 8 c.entryHi.toNat
        g := c.entryLo0.getLsbD 0 && c.entryLo1.getLsbD 0, lo0 := lo c.entryLo0, lo1 := lo c.entryLo1 }
    let wrote : Result → Nat → Prop := fun r k =>
      ∃ t, r = .next t ∧ t = { s with tlb := t.tlb } ∧ SameMemory s t ∧
        ∀ q : Fin 48, t.tlb[q.val] = if q.val = k then e else s.tlb[q.val]
    let legal : Fin 48 → Prop := fun q => ∃ n : Nat, n ≤ 6 ∧ s.tlb[q.val].mask.toNat = 4 ^ n - 1
    let hit : Fin 48 → Bool := fun q => entryMatches s.addr64 s.asid c.entryHi s.tlb[q.val]
    let passed : Fin 48 → Prop := fun q => ∀ p, p < q → legal p ∧ hit p = false
    let probed : Result → Word → Prop := fun r v =>
      ∃ t, r = .next t ∧ t = { s with cp0 := { c with index := v } } ∧ SameMemory s t
    let reg : TlbLo → Bool → Nat := fun l g =>
      l.pfn.toNat * 2 ^ 6 + l.c.toNat * 2 ^ 3 + l.d.toNat * 4 + l.v.toNat * 2 + g.toNat
    (48 ≤ i → exec .tlbwi s = .next s ∧ exec .tlbr s = .next s) ∧
    (i < 48 → wrote (exec .tlbwi s) i) ∧
    (∃ k, k < 48 ∧ (w < 48 → w ≤ k) ∧ (48 ≤ w → k = 47) ∧ wrote (exec .tlbwr s) k) ∧
    (∀ q : Fin 48, q.val = i →
      let f := s.tlb[q.val]
      ∃ t, exec .tlbr s = .next t ∧
        t = { s with cp0 := { c with pageMask := t.cp0.pageMask, entryHi := t.cp0.entryHi,
                                     entryLo0 := t.cp0.entryLo0, entryLo1 := t.cp0.entryLo1 } } ∧
        SameMemory s t ∧ t.cp0.pageMask.toNat = f.mask.toNat * 2 ^ 13 ∧
        t.cp0.entryHi.toNat = f.r.toNat * 2 ^ 62 + f.vpn2.toNat * 2 ^ 13 + f.asid.toNat ∧
        t.cp0.entryLo0.toNat = reg f.lo0 f.g ∧ t.cp0.entryLo1.toNat = reg f.lo1 f.g) ∧
    (∀ q, passed q → ¬legal q → exec .tlbp s = .refused .undefinedPageMask) ∧
    (∀ q, passed q → legal q → hit q = true → probed (exec .tlbp s) (BitVec.ofNat 32 q.val)) ∧
    ((∀ q, legal q ∧ hit q = false) → probed (exec .tlbp s) 0x80000000#32)

/-- TLBWI then TLBR at the same Index gives the registers back, with both G bits their AND (R451, R447, R448). -/
def Obligations.TlbRoundTrip : Prop :=
  (∀ s t u : State, s.cp0.reservedOk s.params = true → s.cp0Usable = true → s.cp0.index.toNat % 64 < 48 →
      exec .tlbwi s = .next t → exec .tlbr t = .next u →
      u.cp0.pageMask = s.cp0.pageMask ∧ u.cp0.entryHi = s.cp0.entryHi ∧
        (∀ j, 0 < j → u.cp0.entryLo0.getLsbD j = s.cp0.entryLo0.getLsbD j ∧
          u.cp0.entryLo1.getLsbD j = s.cp0.entryLo1.getLsbD j) ∧
        u.cp0.entryLo0.getLsbD 0 = (s.cp0.entryLo0.getLsbD 0 && s.cp0.entryLo1.getLsbD 0) ∧
        u.cp0.entryLo1.getLsbD 0 = (s.cp0.entryLo0.getLsbD 0 && s.cp0.entryLo1.getLsbD 0)) ∧
    (∀ s t : State, exec .tlbr s = .next t ∨ exec .tlbp s = .next t → t.tlb = s.tlb)

/-- The coprocessor-2 instructions raise CpU(2) with CU2 = 0 and are refused with CU2 = 1 (R452, R453, R454, R455, R456, U20). -/
def Obligations.Coprocessor2Stub : Prop :=
  ∀ (s : State) (cofun : Nat) (rt base : Reg) (off : BitVec 16),
    ∀ i ∈ [Instr.cop2 cofun, .lwc2 rt base off, .ldc2 rt base off, .swc2 rt base off, .sdc2 rt base off],
      (s.cu2 = false → exec i s = .next (takeException .cpu 2#2 0x180#64 s)) ∧
      (s.cu2 = true → exec i s = .refused .coprocessor2Enabled)

/-- MFC1, DMFC1, CFC1, MTC1, DMTC1, CTC1: values, the register pairing of FR, frame, completion (R481, R484, R485, R486, R487, R488, R489). The model's choice: an odd 64-bit register with FR = 0 is refused at the access (log entry 11). -/
def Obligations.FpMoves : Prop :=
  ∀ (s : State) (rt : Reg) (g : FReg) (n : CReg), s.cu1 = true →
    WritesX s (exec (.mfc1 rt g) s) rt (wordOf (single s g)) ∧
    WritesSingle s (exec (.mtc1 rt g) s) g (lowNat (s.getX rt)) ∧
    (s.ops64 = true →
      Needs64 s g (exec (.dmfc1 rt g) s) (WritesX s (exec (.dmfc1 rt g) s) rt s.f[g.val]) ∧
      Needs64 s g (exec (.dmtc1 rt g) s) (WritesDouble s (exec (.dmtc1 rt g) s) g (s.getX rt).toNat)) ∧
    WritesX s (exec (.cfc1 rt n) s) rt
      (wordOf (if n = 0 then s.params.fcr0.toInt else if n = 31 then s.fcr31.toInt else 0)) ∧
    (n ≠ 31 → exec (.ctc1 rt n) s = .next s) ∧
    (n = 31 → ∃ w, HasBits w (fun j => (s.getX rt).getLsbD j && decide (j ≤ 17 ∨ j = 23 ∨ j = 24)) ∧
      ((w.getLsbD 17 = true ∨ ∃ j, j < 5 ∧ w.getLsbD (12 + j) = true ∧ w.getLsbD (7 + j) = true) →
        exec (.ctc1 rt n) s = .next (State.raise { s with fcr31 := w } .fpe)) ∧
      (¬(w.getLsbD 17 = true ∨ ∃ j, j < 5 ∧ w.getLsbD (12 + j) = true ∧ w.getLsbD (7 + j) = true) →
        exec (.ctc1 rt n) s = .next { s with fcr31 := w }))

/-- LWC1, LDC1, SWC1, SDC1: values, bytes, frame, completion (R494, R495, R496, R497, R481). The model's choice: an odd 64-bit register with FR = 0 is refused at the access (log entry 11). -/
def Obligations.FpLoadsAndStores : Prop :=
  ∀ (s : State) (g : FReg) (base : Reg) (off : BitVec 16) (pa : PAddr), s.cu1 = true → Memory.wf s.mem = true →
    let va := addressOf s base off
    (AccessOk s .load va 4 pa →
      WritesSingle s (exec (.lwc1 g base off) s) g (numberAt s (firstByte s pa 4) 4)) ∧
    (AccessOk s .load va 8 pa → Needs64 s g (exec (.ldc1 g base off) s)
      (WritesDouble s (exec (.ldc1 g base off) s) g (numberAt s (firstByte s pa 8) 8))) ∧
    (AccessOk s .store va 4 pa → Stores s (exec (.swc1 g base off) s) (firstByte s pa 4) 4 (single s g)) ∧
    (AccessOk s .store va 8 pa → Needs64 s g (exec (.sdc1 g base off) s)
      (Stores s (exec (.sdc1 g base off) s) (firstByte s pa 8) 8 s.f[g.val].toNat))

/-- ADD, SUB, MUL, DIV, SQRT in both formats: library result, flags, frame, completion (R521, R522, R525, R526, R529, R533, R482, R481). The model's choice: an odd 64-bit source with FR = 0 is refused before anything else, an odd 64-bit destination only when the result is committed, so after an enabled exception (log entry 11). -/
def Obligations.FpArithmetic : Prop :=
  ∀ (s : State) (d a b : FReg), s.cu1 = true →
    let rm := s.fcr31.extractLsb' 0 2
    let u := s.fcr31.getLsbD 8
    let x := s.f[a.val].toNat
    let y := s.f[b.val].toNat
    FinishesSingle s (exec (.addS d a b) s) d (fpAdd fmtS rm u (single s a) (single s b)) ∧
    FinishesSingle s (exec (.subS d a b) s) d (fpSub fmtS rm u (single s a) (single s b)) ∧
    FinishesSingle s (exec (.mulS d a b) s) d (fpMul fmtS rm u (single s a) (single s b)) ∧
    FinishesSingle s (exec (.divS d a b) s) d (fpDiv fmtS rm u (single s a) (single s b)) ∧
    FinishesSingle s (exec (.sqrtS d a) s) d (fpSqrt fmtS rm u (single s a)) ∧
    (∀ p ∈ [(Instr.addD d a b, fpAdd fmtD rm u x y), (.subD d a b, fpSub fmtD rm u x y),
        (.mulD d a b, fpMul fmtD rm u x y), (.divD d a b, fpDiv fmtD rm u x y)],
      Needs64 s a (exec p.1 s) (Needs64 s b (exec p.1 s) (FinishesDouble s (exec p.1 s) d p.2))) ∧
    Needs64 s a (exec (.sqrtD d a) s) (FinishesDouble s (exec (.sqrtD d a) s) d (fpSqrt fmtD rm u x))

/-- ABS, MOV, NEG in both formats: the sign bit cleared, kept or inverted, no flag, frame, completion (R535, R536, R537, R538, R539, R540). The model's choice: an odd 64-bit source or destination with FR = 0 is refused at the access (log entry 11). -/
def Obligations.FpSignOperations : Prop :=
  ∀ (s : State) (d a : FReg), s.cu1 = true →
    let x := single s a
    let y := s.f[a.val].toNat
    WritesSingle s (exec (.absS d a) s) d (x % 2 ^ 31) ∧ WritesSingle s (exec (.movS d a) s) d x ∧
    WritesSingle s (exec (.negS d a) s) d ((x + 2 ^ 31) % 2 ^ 32) ∧
    (∀ p ∈ [(Instr.absD d a, y % 2 ^ 63), (.movD d a, y), (.negD d a, (y + 2 ^ 63) % 2 ^ 64)],
      Needs64 s a (exec p.1 s) (Needs64 s d (exec p.1 s) (WritesDouble s (exec p.1 s) d p.2)))

/-- ROUND, TRUNC, CEIL, FLOOR and CVT to W and L: the rounded number, the invalid result, flags, completion (R522, R523, R541, R549, R556, R563, R566, R482). The model's choice: an odd 64-bit source with FR = 0 is refused before anything else, an odd 64-bit destination only when the result is committed, so after an enabled exception (log entry 11). -/
def Obligations.FpToInteger : Prop :=
  ∀ (s : State) (d a : FReg), s.cu1 = true →
    let rm := s.fcr31.extractLsb' 0 2
    let wS := fun m => intResult fmtS 32 s.params.invalidW m (single s a)
    let wD := fun m => intResult fmtD 32 s.params.invalidW m s.f[a.val].toNat
    let lS := fun m => intResult fmtS 64 s.params.invalidL m (single s a)
    let lD := fun m => intResult fmtD 64 s.params.invalidL m s.f[a.val].toNat
    (∀ p ∈ [(Instr.roundWS d a, wS 0#2), (.truncWS d a, wS 1#2), (.ceilWS d a, wS 2#2), (.floorWS d a, wS 3#2),
        (.cvtWS d a, wS rm)], FinishesSingle s (exec p.1 s) d p.2) ∧
    (∀ p ∈ [(Instr.roundWD d a, wD 0#2), (.truncWD d a, wD 1#2), (.ceilWD d a, wD 2#2), (.floorWD d a, wD 3#2),
        (.cvtWD d a, wD rm)], Needs64 s a (exec p.1 s) (FinishesSingle s (exec p.1 s) d p.2)) ∧
    (∀ p ∈ [(Instr.roundLS d a, lS 0#2), (.truncLS d a, lS 1#2), (.ceilLS d a, lS 2#2), (.floorLS d a, lS 3#2),
        (.cvtLS d a, lS rm)], FinishesDouble s (exec p.1 s) d p.2) ∧
    (∀ p ∈ [(Instr.roundLD d a, lD 0#2), (.truncLD d a, lD 1#2), (.ceilLD d a, lD 2#2), (.floorLD d a, lD 3#2),
        (.cvtLD d a, lD rm)], Needs64 s a (exec p.1 s) (FinishesDouble s (exec p.1 s) d p.2))

/-- CVT.S and CVT.D: library result, flags, frame, completion (R521, R557, R558, R559, R560, R561, R562, R482). The model's choice: an odd 64-bit source with FR = 0 is refused before anything else, an odd 64-bit destination only when the result is committed, so after an enabled exception (log entry 11). -/
def Obligations.FpConversions : Prop :=
  ∀ (s : State) (d a : FReg), s.cu1 = true →
    let rm := s.fcr31.extractLsb' 0 2
    let u := s.fcr31.getLsbD 8
    let w := Int.bmod (single s a) (2 ^ 32)
    let l := s.f[a.val].toInt
    FinishesSingle s (exec (.cvtSW d a) s) d (fpOfInt fmtS rm u w) ∧
    FinishesDouble s (exec (.cvtDW d a) s) d (fpOfInt fmtD rm u w) ∧
    FinishesDouble s (exec (.cvtDS d a) s) d (fpConvert fmtS fmtD rm u (single s a)) ∧
    Needs64 s a (exec (.cvtSD d a) s)
      (FinishesSingle s (exec (.cvtSD d a) s) d (fpConvert fmtD fmtS rm u s.f[a.val].toNat)) ∧
    Needs64 s a (exec (.cvtSL d a) s) (FinishesSingle s (exec (.cvtSL d a) s) d (fpOfInt fmtS rm u l)) ∧
    Needs64 s a (exec (.cvtDL d a) s) (FinishesDouble s (exec (.cvtDL d a) s) d (fpOfInt fmtD rm u l))

/-- The 32 comparisons C.cond.fmt: the condition bit, the flags, frame, completion (R524, R482). The model's choice: an odd 64-bit source with FR = 0 is refused before anything else (log entry 11). -/
def Obligations.FpCompares : Prop :=
  ∀ (s : State) (a b : FReg), s.cu1 = true →
    let cond : FpFormat → Nat → Nat → Nat → Bool := fun fmt k x y =>
      let un := fpIsNaN fmt x || fpIsNaN fmt y
      (decide (k / 4 % 2 = 1) && !un && fpLt fmt x y) || (decide (k / 2 % 2 = 1) && !un && fpEq fmt x y) ||
        (decide (k % 2 = 1) && un)
    let fl : FpFormat → Nat → Nat → Nat → FpFlags := fun fmt k x y =>
      if fpIsSNaN fmt x || fpIsSNaN fmt y || (decide (8 ≤ k) && (fpIsNaN fmt x || fpIsNaN fmt y)) then 0x10#5 else 0#5
    let x := single s a
    let y := single s b
    let p := s.f[a.val].toNat
    let q := s.f[b.val].toNat
    (∀ i ∈ [(Instr.cFS a b, 0), (.cUnS a b, 1), (.cEqS a b, 2), (.cUeqS a b, 3), (.cOltS a b, 4), (.cUltS a b, 5),
        (.cOleS a b, 6), (.cUleS a b, 7), (.cSfS a b, 8), (.cNgleS a b, 9), (.cSeqS a b, 10), (.cNglS a b, 11),
        (.cLtS a b, 12), (.cNgeS a b, 13), (.cLeS a b, 14), (.cNgtS a b, 15)],
      FinishesCompare s (exec i.1 s) (cond fmtS i.2 x y) (fl fmtS i.2 x y)) ∧
    (∀ i ∈ [(Instr.cFD a b, 0), (.cUnD a b, 1), (.cEqD a b, 2), (.cUeqD a b, 3), (.cOltD a b, 4), (.cUltD a b, 5),
        (.cOleD a b, 6), (.cUleD a b, 7), (.cSfD a b, 8), (.cNgleD a b, 9), (.cSeqD a b, 10), (.cNglD a b, 11),
        (.cLtD a b, 12), (.cNgeD a b, 13), (.cLeD a b, 14), (.cNgtD a b, 15)],
      Needs64 s a (exec i.1 s) (Needs64 s b (exec i.1 s)
        (FinishesCompare s (exec i.1 s) (cond fmtD i.2 p q) (fl fmtD i.2 p q))))

/-- The library's NaN test, less and equal are those of the numbers the patterns stand for (R520, R524). -/
def Obligations.FpOrderIsNumeric : Prop :=
  ∀ fmt ∈ [fmtS, fmtD], ∀ a b : Nat, a < 2 ^ fmt.width → b < 2 ^ fmt.width →
    (fpIsNaN fmt a = true ↔ IsNaN fmt a) ∧
    (∀ x y, fpRat fmt a = some x → fpRat fmt b = some y →
      (fpLt fmt a b = true ↔ x < y) ∧ (fpEq fmt a b = true ↔ x = y)) ∧
    (∀ x neg, fpRat fmt a = some x → IsInf fmt neg b →
      fpLt fmt a b = !neg ∧ fpLt fmt b a = neg ∧ fpEq fmt a b = false ∧ fpEq fmt b a = false) ∧
    (∀ m n, IsInf fmt m a → IsInf fmt n b → fpLt fmt a b = (m && !n) ∧ fpEq fmt a b = decide (m = n))

/-- add, sub, mul, div and the conversions give the IEEE 754 correctly rounded result and flags (R520, R522). -/
def Obligations.FpResultsCorrectlyRounded : Prop :=
  ∀ fmt ∈ [fmtS, fmtD], ∀ (rm : BitVec 2) (u : Bool) (a b : Nat) (x y : ℚ) (i : ℤ),
    a < 2 ^ fmt.width → b < 2 ^ fmt.width → fpRat fmt a = some x → fpRat fmt b = some y →
    (x + y ≠ 0 → CorrectlyRounded fmt rm u ((x + y : ℚ) : ℝ) (fpAdd fmt rm u a b)) ∧
    (x - y ≠ 0 → CorrectlyRounded fmt rm u ((x - y : ℚ) : ℝ) (fpSub fmt rm u a b)) ∧
    (x * y ≠ 0 → CorrectlyRounded fmt rm u ((x * y : ℚ) : ℝ) (fpMul fmt rm u a b)) ∧
    (x ≠ 0 → y ≠ 0 → CorrectlyRounded fmt rm u ((x / y : ℚ) : ℝ) (fpDiv fmt rm u a b)) ∧
    (x ≠ 0 → ∀ dst ∈ [fmtS, fmtD], CorrectlyRounded dst rm u (x : ℝ) (fpConvert fmt dst rm u a)) ∧
    (i ≠ 0 → CorrectlyRounded fmt rm u (i : ℝ) (fpOfInt fmt rm u i))

/-- sqrt of a positive finite number is the correctly rounded square root, with the flags of an inexact result (R520, R533, R534). -/
def Obligations.FpSquareRootCorrectlyRounded : Prop :=
  ∀ fmt ∈ [fmtS, fmtD], ∀ (rm : BitVec 2) (u : Bool) (a : Nat) (x : ℚ),
    a < 2 ^ fmt.width → fpRat fmt a = some x → 0 < x →
    CorrectlyRounded fmt rm u (Real.sqrt x) (fpSqrt fmt rm u a)

/-- NaN operands, invalid operations, infinities, zeros and division by zero give the results and flags of R520 (R520, R533). The model's choice: a NaN operand that does not signal raises no flag (log entry 13). -/
def Obligations.FpSpecialOperands : Prop :=
  ∀ fmt ∈ [fmtS, fmtD], ∀ (rm : BitVec 2) (u : Bool) (a b : Nat), a < 2 ^ fmt.width → b < 2 ^ fmt.width →
    let neg : Nat → Bool := fun v => decide (v / 2 ^ (fmt.width - 1) = 1)
    let nan : FpFormat → FpResult → FpFlags → Prop := fun g r fl => IsNaN g r.1 ∧ r.1 < 2 ^ g.width ∧ r.2 = fl
    let nanV : FpResult → Prop := fun r => nan fmt r 0x10#5
    let inf : FpFormat → FpResult → Bool → Prop := fun g r n => IsInf g n r.1 ∧ r.2 = 0#5
    let zero : FpFormat → Bool → FpResult := fun g n => (if n then 2 ^ (g.width - 1) else 0, 0#5)
    let sig : Bool → FpFlags := fun v => if v then 0x10#5 else 0#5
    (IsNaN fmt a ∨ IsNaN fmt b →
      ∀ r ∈ [fpAdd fmt rm u a b, fpSub fmt rm u a b, fpMul fmt rm u a b, fpDiv fmt rm u a b],
        nan fmt r (sig (fpIsSNaN fmt a || fpIsSNaN fmt b))) ∧
    (IsNaN fmt a → nan fmt (fpSqrt fmt rm u a) (sig (fpIsSNaN fmt a)) ∧
      ∀ dst ∈ [fmtS, fmtD], nan dst (fpConvert fmt dst rm u a) (sig (fpIsSNaN fmt a))) ∧
    (∀ m n, IsInf fmt m a → IsInf fmt n b →
      (m ≠ n → nanV (fpAdd fmt rm u a b) ∧ fpSub fmt rm u a b = (a, 0#5)) ∧
      (m = n → nanV (fpSub fmt rm u a b) ∧ fpAdd fmt rm u a b = (a, 0#5)) ∧ nanV (fpDiv fmt rm u a b) ∧
      inf fmt (fpMul fmt rm u a b) (m ^^ n)) ∧
    (∀ m y, IsInf fmt m a → fpRat fmt b = some y →
      fpAdd fmt rm u a b = (a, 0#5) ∧ fpAdd fmt rm u b a = (a, 0#5) ∧ fpSub fmt rm u a b = (a, 0#5) ∧
      inf fmt (fpSub fmt rm u b a) (!m) ∧ inf fmt (fpDiv fmt rm u a b) (m ^^ neg b) ∧
      fpDiv fmt rm u b a = zero fmt (m ^^ neg b) ∧
      (y = 0 → nanV (fpMul fmt rm u a b) ∧ nanV (fpMul fmt rm u b a)) ∧
      (y ≠ 0 → inf fmt (fpMul fmt rm u a b) (m ^^ neg b) ∧ inf fmt (fpMul fmt rm u b a) (m ^^ neg b))) ∧
    (∀ m, IsInf fmt m a → (m = false → fpSqrt fmt rm u a = (a, 0#5)) ∧ (m = true → nanV (fpSqrt fmt rm u a)) ∧
      ∀ dst ∈ [fmtS, fmtD], inf dst (fpConvert fmt dst rm u a) m) ∧
    (fpRat fmt a = some 0 → fpSqrt fmt rm u a = (a, 0#5) ∧
      ∀ dst ∈ [fmtS, fmtD], fpConvert fmt dst rm u a = zero dst (neg a)) ∧
    fpOfInt fmt rm u 0 = (0, 0#5) ∧
    (∀ x, fpRat fmt a = some x → x < 0 → nanV (fpSqrt fmt rm u a)) ∧
    (∀ x y, fpRat fmt a = some x → fpRat fmt b = some y →
      (x + y = 0 → fpAdd fmt rm u a b = zero fmt (if neg a = neg b then neg a else decide (rm = 3#2))) ∧
      (x - y = 0 → fpSub fmt rm u a b = zero fmt (if neg a = neg b then decide (rm = 3#2) else neg a)) ∧
      (x * y = 0 → fpMul fmt rm u a b = zero fmt (neg a ^^ neg b)) ∧
      (x = 0 → y ≠ 0 → fpDiv fmt rm u a b = zero fmt (neg a ^^ neg b)) ∧
      (x = 0 → y = 0 → nanV (fpDiv fmt rm u a b)) ∧
      (x ≠ 0 → y = 0 → (fpDiv fmt rm u a b).2 = 0x08#5 ∧ IsInf fmt (neg a ^^ neg b) (fpDiv fmt rm u a b).1))
end

