-- ==== Sys2Proof/Laws/Encoding.lean ====
section
/-! SUPPORT. Reading a field of a packed word gives what was packed: one lemma per word shape and field. The
simp set of the round trip (Laws/PerInstr.lean). -/

namespace Sys2Proof.Laws

/-- A register field read back as a register number. -/
@[simp] theorem regBits_toFin (r : Fin 32) : (regBits r).toFin = r := by
  revert r; decide

/-- A number that fits its field is read back. -/
theorem ofNat_toNat_fits (w n : Nat) (h : n < 2 ^ w) : (BitVec.ofNat w n).toNat = n := by
  simp [Nat.mod_eq_of_lt h]

@[simp] theorem opcodeF_packR (op : BitVec 6) (a b c d : BitVec 5) (fn : BitVec 6) : opcodeF (packR op a b c d fn) = op := by
  have h : (packR op a b c d fn).extractLsb' 26 6 = op := by
    apply BitVec.eq_of_getLsbD_eq
    intro i hi
    simp only [packR, BitVec.getLsbD_extractLsb', BitVec.getLsbD_append]
    interval_cases i <;> rfl
  exact h

@[simp] theorem subF_packR (op : BitVec 6) (a b c d : BitVec 5) (fn : BitVec 6) : subF (packR op a b c d fn) = a := by
  have h : (packR op a b c d fn).extractLsb' 21 5 = a := by
    apply BitVec.eq_of_getLsbD_eq
    intro i hi
    simp only [packR, BitVec.getLsbD_extractLsb', BitVec.getLsbD_append]
    interval_cases i <;> rfl
  exact h

@[simp] theorem selF_packR (op : BitVec 6) (a b c d : BitVec 5) (fn : BitVec 6) : selF (packR op a b c d fn) = b := by
  have h : (packR op a b c d fn).extractLsb' 16 5 = b := by
    apply BitVec.eq_of_getLsbD_eq
    intro i hi
    simp only [packR, BitVec.getLsbD_extractLsb', BitVec.getLsbD_append]
    interval_cases i <;> rfl
  exact h

@[simp] theorem functF_packR (op : BitVec 6) (a b c d : BitVec 5) (fn : BitVec 6) : functF (packR op a b c d fn) = fn := by
  have h : (packR op a b c d fn).extractLsb' 0 6 = fn := by
    apply BitVec.eq_of_getLsbD_eq
    intro i hi
    simp only [packR, BitVec.getLsbD_extractLsb', BitVec.getLsbD_append]
    interval_cases i <;> rfl
  exact h

@[simp] theorem rsF_packR (op : BitVec 6) (a b c d : BitVec 5) (fn : BitVec 6) : rsF (packR op a b c d fn) = a.toFin := by
  have h : (packR op a b c d fn).extractLsb' 21 5 = a := by
    apply BitVec.eq_of_getLsbD_eq
    intro i hi
    simp only [packR, BitVec.getLsbD_extractLsb', BitVec.getLsbD_append]
    interval_cases i <;> rfl
  simp [rsF, h]

@[simp] theorem rtF_packR (op : BitVec 6) (a b c d : BitVec 5) (fn : BitVec 6) : rtF (packR op a b c d fn) = b.toFin := by
  have h : (packR op a b c d fn).extractLsb' 16 5 = b := by
    apply BitVec.eq_of_getLsbD_eq
    intro i hi
    simp only [packR, BitVec.getLsbD_extractLsb', BitVec.getLsbD_append]
    interval_cases i <;> rfl
  simp [rtF, h]

@[simp] theorem rdF_packR (op : BitVec 6) (a b c d : BitVec 5) (fn : BitVec 6) : rdF (packR op a b c d fn) = c.toFin := by
  have h : (packR op a b c d fn).extractLsb' 11 5 = c := by
    apply BitVec.eq_of_getLsbD_eq
    intro i hi
    simp only [packR, BitVec.getLsbD_extractLsb', BitVec.getLsbD_append]
    interval_cases i <;> rfl
  simp [rdF, h]

@[simp] theorem fdF_packR (op : BitVec 6) (a b c d : BitVec 5) (fn : BitVec 6) : fdF (packR op a b c d fn) = d.toFin := by
  have h : (packR op a b c d fn).extractLsb' 6 5 = d := by
    apply BitVec.eq_of_getLsbD_eq
    intro i hi
    simp only [packR, BitVec.getLsbD_extractLsb', BitVec.getLsbD_append]
    interval_cases i <;> rfl
  simp [fdF, h]

@[simp] theorem saF_packR (op : BitVec 6) (a b c d : BitVec 5) (fn : BitVec 6) : saF (packR op a b c d fn) = d.toNat := by
  have h : (packR op a b c d fn).extractLsb' 6 5 = d := by
    apply BitVec.eq_of_getLsbD_eq
    intro i hi
    simp only [packR, BitVec.getLsbD_extractLsb', BitVec.getLsbD_append]
    interval_cases i <;> rfl
  simp [saF, h]

@[simp] theorem opcodeF_packI (op : BitVec 6) (a b : BitVec 5) (imm : BitVec 16) : opcodeF (packI op a b imm) = op := by
  have h : (packI op a b imm).extractLsb' 26 6 = op := by
    apply BitVec.eq_of_getLsbD_eq
    intro i hi
    simp only [packI, BitVec.getLsbD_extractLsb', BitVec.getLsbD_append]
    interval_cases i <;> rfl
  exact h

@[simp] theorem subF_packI (op : BitVec 6) (a b : BitVec 5) (imm : BitVec 16) : subF (packI op a b imm) = a := by
  have h : (packI op a b imm).extractLsb' 21 5 = a := by
    apply BitVec.eq_of_getLsbD_eq
    intro i hi
    simp only [packI, BitVec.getLsbD_extractLsb', BitVec.getLsbD_append]
    interval_cases i <;> rfl
  exact h

@[simp] theorem selF_packI (op : BitVec 6) (a b : BitVec 5) (imm : BitVec 16) : selF (packI op a b imm) = b := by
  have h : (packI op a b imm).extractLsb' 16 5 = b := by
    apply BitVec.eq_of_getLsbD_eq
    intro i hi
    simp only [packI, BitVec.getLsbD_extractLsb', BitVec.getLsbD_append]
    interval_cases i <;> rfl
  exact h

@[simp] theorem rsF_packI (op : BitVec 6) (a b : BitVec 5) (imm : BitVec 16) : rsF (packI op a b imm) = a.toFin := by
  have h : (packI op a b imm).extractLsb' 21 5 = a := by
    apply BitVec.eq_of_getLsbD_eq
    intro i hi
    simp only [packI, BitVec.getLsbD_extractLsb', BitVec.getLsbD_append]
    interval_cases i <;> rfl
  simp [rsF, h]

@[simp] theorem rtF_packI (op : BitVec 6) (a b : BitVec 5) (imm : BitVec 16) : rtF (packI op a b imm) = b.toFin := by
  have h : (packI op a b imm).extractLsb' 16 5 = b := by
    apply BitVec.eq_of_getLsbD_eq
    intro i hi
    simp only [packI, BitVec.getLsbD_extractLsb', BitVec.getLsbD_append]
    interval_cases i <;> rfl
  simp [rtF, h]

@[simp] theorem opF_packI (op : BitVec 6) (a b : BitVec 5) (imm : BitVec 16) : opF (packI op a b imm) = b.toNat := by
  have h : (packI op a b imm).extractLsb' 16 5 = b := by
    apply BitVec.eq_of_getLsbD_eq
    intro i hi
    simp only [packI, BitVec.getLsbD_extractLsb', BitVec.getLsbD_append]
    interval_cases i <;> rfl
  simp [opF, h]

@[simp] theorem immF_packI (op : BitVec 6) (a b : BitVec 5) (imm : BitVec 16) : immF (packI op a b imm) = imm := by
  have h : (packI op a b imm).extractLsb' 0 16 = imm := by
    apply BitVec.eq_of_getLsbD_eq
    intro i hi
    simp only [packI, BitVec.getLsbD_extractLsb', BitVec.getLsbD_append]
    interval_cases i <;> rfl
  exact h

@[simp] theorem opcodeF_packJ (op : BitVec 6) (t : BitVec 26) : opcodeF (packJ op t) = op := by
  have h : (packJ op t).extractLsb' 26 6 = op := by
    apply BitVec.eq_of_getLsbD_eq
    intro i hi
    simp only [packJ, BitVec.getLsbD_extractLsb', BitVec.getLsbD_append]
    interval_cases i <;> rfl
  exact h

@[simp] theorem targetF_packJ (op : BitVec 6) (t : BitVec 26) : targetF (packJ op t) = t := by
  have h : (packJ op t).extractLsb' 0 26 = t := by
    apply BitVec.eq_of_getLsbD_eq
    intro i hi
    simp only [packJ, BitVec.getLsbD_extractLsb', BitVec.getLsbD_append]
    interval_cases i <;> rfl
  exact h

@[simp] theorem cofunF_packJ (op : BitVec 6) (t : BitVec 26) : cofunF (packJ op t) = t.toNat := by
  have h : (packJ op t).extractLsb' 0 26 = t := by
    apply BitVec.eq_of_getLsbD_eq
    intro i hi
    simp only [packJ, BitVec.getLsbD_extractLsb', BitVec.getLsbD_append]
    interval_cases i <;> rfl
  simp [cofunF, h]

@[simp] theorem opcodeF_packCode (code : BitVec 20) (fn : BitVec 6) : opcodeF (packCode code fn) = 0#6 := by
  have h : (packCode code fn).extractLsb' 26 6 = 0#6 := by
    apply BitVec.eq_of_getLsbD_eq
    intro i hi
    simp only [packCode, BitVec.getLsbD_extractLsb', BitVec.getLsbD_append]
    interval_cases i <;> rfl
  exact h

@[simp] theorem functF_packCode (code : BitVec 20) (fn : BitVec 6) : functF (packCode code fn) = fn := by
  have h : (packCode code fn).extractLsb' 0 6 = fn := by
    apply BitVec.eq_of_getLsbD_eq
    intro i hi
    simp only [packCode, BitVec.getLsbD_extractLsb', BitVec.getLsbD_append]
    interval_cases i <;> rfl
  exact h

@[simp] theorem codeF_packCode (code : BitVec 20) (fn : BitVec 6) : codeF (packCode code fn) = code.toNat := by
  have h : (packCode code fn).extractLsb' 6 20 = code := by
    apply BitVec.eq_of_getLsbD_eq
    intro i hi
    simp only [packCode, BitVec.getLsbD_extractLsb', BitVec.getLsbD_append]
    interval_cases i <;> rfl
  simp [codeF, h]

@[simp] theorem opcodeF_packTrap (a b : BitVec 5) (code : BitVec 10) (fn : BitVec 6) : opcodeF (packTrap a b code fn) = 0#6 := by
  have h : (packTrap a b code fn).extractLsb' 26 6 = 0#6 := by
    apply BitVec.eq_of_getLsbD_eq
    intro i hi
    simp only [packTrap, BitVec.getLsbD_extractLsb', BitVec.getLsbD_append]
    interval_cases i <;> rfl
  exact h

@[simp] theorem functF_packTrap (a b : BitVec 5) (code : BitVec 10) (fn : BitVec 6) : functF (packTrap a b code fn) = fn := by
  have h : (packTrap a b code fn).extractLsb' 0 6 = fn := by
    apply BitVec.eq_of_getLsbD_eq
    intro i hi
    simp only [packTrap, BitVec.getLsbD_extractLsb', BitVec.getLsbD_append]
    interval_cases i <;> rfl
  exact h

@[simp] theorem rsF_packTrap (a b : BitVec 5) (code : BitVec 10) (fn : BitVec 6) : rsF (packTrap a b code fn) = a.toFin := by
  have h : (packTrap a b code fn).extractLsb' 21 5 = a := by
    apply BitVec.eq_of_getLsbD_eq
    intro i hi
    simp only [packTrap, BitVec.getLsbD_extractLsb', BitVec.getLsbD_append]
    interval_cases i <;> rfl
  simp [rsF, h]

@[simp] theorem rtF_packTrap (a b : BitVec 5) (code : BitVec 10) (fn : BitVec 6) : rtF (packTrap a b code fn) = b.toFin := by
  have h : (packTrap a b code fn).extractLsb' 16 5 = b := by
    apply BitVec.eq_of_getLsbD_eq
    intro i hi
    simp only [packTrap, BitVec.getLsbD_extractLsb', BitVec.getLsbD_append]
    interval_cases i <;> rfl
  simp [rtF, h]

@[simp] theorem trapCodeF_packTrap (a b : BitVec 5) (code : BitVec 10) (fn : BitVec 6) : trapCodeF (packTrap a b code fn) = code.toNat := by
  have h : (packTrap a b code fn).extractLsb' 6 10 = code := by
    apply BitVec.eq_of_getLsbD_eq
    intro i hi
    simp only [packTrap, BitVec.getLsbD_extractLsb', BitVec.getLsbD_append]
    interval_cases i <;> rfl
  simp [trapCodeF, h]

end Sys2Proof.Laws
end

