-- ==== Sys2Proof/Laws/Memory.lean ====
section
/-! SUPPORT. The laws of memory: a read after a write, the canonical form and the physical space kept by every
memory operation, and the bytes of a wide access. -/

namespace Sys2Proof.Machine

/-! ## The canonical form -/

theorem wf_cons {a : Nat} {v : Byte} {rest : Memory} (h : Memory.wf ((a, v) :: rest) = true) :
    v ≠ unlistedByte ∧ (∀ c ∈ rest, a < c.1) ∧ Memory.wf rest = true := by
  simpa [Memory.wf, and_assoc] using h

theorem wf_of {a : Nat} {v : Byte} {rest : Memory} (hv : v ≠ unlistedByte) (ha : ∀ c ∈ rest, a < c.1)
    (hr : Memory.wf rest = true) : Memory.wf ((a, v) :: rest) = true := by
  simp only [Memory.wf, Bool.and_eq_true, decide_eq_true_eq, List.all_eq_true]
  exact ⟨⟨hv, ha⟩, hr⟩

/-- Every address listed after a write was listed, or is the written one. -/
theorem mem_writeByte (m : Memory) (a : Nat) (v : Byte) (c : Host.Cell) (h : c ∈ Memory.writeByte m a v) :
    c ∈ m ∨ c = (a, v) := by
  induction m with
  | nil => unfold Memory.writeByte at h; split at h <;> simp_all
  | cons d rest ih =>
    obtain ⟨b, w⟩ := d
    simp only [Memory.writeByte] at h
    split at h
    · split at h <;> simp_all <;> tauto
    · split at h
      · split at h <;> simp_all <;> tauto
      · simp only [List.mem_cons] at h ⊢
        rcases h with h | h
        · exact .inl (.inl h)
        · rcases ih h with h | h
          · exact .inl (.inr h)
          · exact .inr h

/-- A byte write keeps the canonical form. -/
theorem writeByte_wf (m : Memory) (a : Nat) (v : Byte) (h : Memory.wf m = true) :
    Memory.wf (Memory.writeByte m a v) = true := by
  induction m with
  | nil =>
    unfold Memory.writeByte
    split
    · rfl
    · rename_i hv; exact wf_of hv (by simp) rfl
  | cons d rest ih =>
    obtain ⟨b, w⟩ := d
    obtain ⟨hw, hb, hr⟩ := wf_cons h
    simp only [Memory.writeByte]
    split
    · rename_i hab
      split
      · exact h
      · rename_i hv
        refine wf_of hv (fun c hc => ?_) h
        rcases List.mem_cons.1 hc with rfl | hc
        · exact hab
        · exact Nat.lt_trans hab (hb c hc)
    · split
      · rename_i hab; subst hab
        split
        · exact hr
        · rename_i hv; exact wf_of hv hb hr
      · rename_i h1 h2
        refine wf_of hw (fun c hc => ?_) (ih hr)
        rcases mem_writeByte _ _ _ _ hc with hc | rfl
        · exact hb c hc
        · simp only; omega

/-- Writing a list of bytes keeps the canonical form. -/
theorem writeCells_wf (m : Memory) (cells : List Host.Cell) (h : Memory.wf m = true) :
    Memory.wf (Memory.writeCells m cells) = true := by
  unfold Memory.writeCells
  induction cells generalizing m with
  | nil => exact h
  | cons c rest ih => exact ih _ (writeByte_wf _ _ _ h)

/-- Writing bytes of the physical space keeps memory in it. -/
theorem writeCells_inSpace (m : Memory) (cells : List Host.Cell) (h : Memory.inSpace m = true)
    (hc : ∀ c ∈ cells, c.1 < 2 ^ 36) : Memory.inSpace (Memory.writeCells m cells) = true := by
  unfold Memory.writeCells
  induction cells generalizing m with
  | nil => exact h
  | cons c rest ih =>
    refine ih _ ?_ (fun d hd => hc d (List.mem_cons_of_mem _ hd))
    simp only [Memory.inSpace, List.all_eq_true, decide_eq_true_eq] at h ⊢
    intro d hd
    rcases mem_writeByte _ _ _ _ hd with hd | rfl
    · exact h d hd
    · exact hc c (List.mem_cons_self ..)

/-! ## Reading after writing -/

/-- An address below every listed one reads as unlisted. -/
theorem readByte_below (m : Memory) (a : Nat) (h : ∀ c ∈ m, a < c.1) : Memory.readByte m a = unlistedByte := by
  induction m with
  | nil => rfl
  | cons d rest ih =>
    obtain ⟨b, w⟩ := d
    have hb := h (b, w) (List.mem_cons_self ..)
    simp only at hb
    simp only [Memory.readByte]
    rw [if_neg (by omega)]
    exact ih fun c hc => h c (List.mem_cons_of_mem _ hc)

/-- The written byte reads as written. -/
theorem readByte_writeByte_same (m : Memory) (a : Nat) (v : Byte) (h : Memory.wf m = true) :
    Memory.readByte (Memory.writeByte m a v) a = v := by
  induction m with
  | nil => unfold Memory.writeByte; split <;> simp_all [Memory.readByte]
  | cons d rest ih =>
    obtain ⟨b, w⟩ := d
    obtain ⟨hw, hb, hr⟩ := wf_cons h
    simp only [Memory.writeByte]
    split
    · rename_i hab
      split
      · rename_i hv
        rw [hv]
        refine readByte_below _ _ fun c hc => ?_
        rcases List.mem_cons.1 hc with rfl | hc
        · exact hab
        · exact Nat.lt_trans hab (hb c hc)
      · simp [Memory.readByte]
    · split
      · rename_i hab; subst hab
        split
        · rename_i hv; rw [hv]; exact readByte_below _ _ hb
        · simp [Memory.readByte]
      · rename_i h1 h2
        simp only [Memory.readByte]
        rw [if_neg (fun e => h2 e.symm)]
        exact ih hr

/-- Every other byte reads as before. -/
theorem readByte_writeByte_ne (m : Memory) (a b : Nat) (v : Byte) (h : b ≠ a) :
    Memory.readByte (Memory.writeByte m a v) b = Memory.readByte m b := by
  induction m with
  | nil => unfold Memory.writeByte; split <;> simp_all [Memory.readByte, Ne.symm h]
  | cons d rest ih =>
    obtain ⟨c, w⟩ := d
    simp only [Memory.writeByte]
    split
    · split
      · rfl
      · simp [Memory.readByte, Ne.symm h]
    · split
      · rename_i hac; subst hac
        split <;> simp [Memory.readByte, Ne.symm h]
      · simp only [Memory.readByte]
        split
        · rfl
        · exact ih

/-- A byte outside the written addresses reads as before. -/
theorem readByte_writeCells_out (m : Memory) (cells : List Host.Cell) (a : Nat)
    (h : a ∉ cells.map Prod.fst) : Memory.readByte (Memory.writeCells m cells) a = Memory.readByte m a := by
  unfold Memory.writeCells
  induction cells generalizing m with
  | nil => rfl
  | cons c rest ih =>
    simp only [List.map_cons, List.mem_cons, not_or] at h
    simp only [List.foldl_cons]
    rw [ih _ h.2, readByte_writeByte_ne _ _ _ _ h.1]

/-- A byte written once reads as written. -/
theorem readByte_writeCells_in (m : Memory) (cells : List Host.Cell) (a : Nat) (v : Byte)
    (hm : Memory.wf m = true) (hn : (cells.map Prod.fst).Nodup) (h : (a, v) ∈ cells) :
    Memory.readByte (Memory.writeCells m cells) a = v := by
  induction cells generalizing m with
  | nil => simp at h
  | cons c rest ih =>
    simp only [List.map_cons, List.nodup_cons] at hn
    have hstep : Memory.writeCells m (c :: rest) = Memory.writeCells (Memory.writeByte m c.1 c.2) rest := rfl
    rw [hstep]
    rcases List.mem_cons.1 h with rfl | h
    · rw [readByte_writeCells_out _ _ _ hn.1, readByte_writeByte_same _ _ _ hm]
    · exact ih _ (writeByte_wf _ _ _ hm) hn.2 h

/-! ## The bytes of a wide access -/

/-- The addresses a masked write can touch. -/
theorem maskedCells_addr (be : Bool) (pa n : Nat) (v mask : DWord) (c : Host.Cell)
    (h : c ∈ maskedCells be pa n v mask) : pa ≤ c.1 ∧ c.1 < pa + n := by
  simp only [maskedCells, List.mem_filterMap, List.mem_range] at h
  obtain ⟨i, hi, hc⟩ := h
  split at hc
  · simp only [Option.some.injEq] at hc
    subst hc
    simp only
    omega
  · simp at hc

/-- Every lane of an all-ones mask is set. -/
theorem allOnes_lane (k : Nat) (h : k + 8 ≤ 64) : (BitVec.allOnes 64 >>> k).setWidth 8 = 0xFF#8 := by
  apply BitVec.eq_of_getLsbD_eq
  intro i hi
  have h1 : (0xFF#8).getLsbD i = true := by
    have : (0xFF#8) = BitVec.allOnes 8 := by decide
    rw [this, BitVec.getLsbD_allOnes]
    simpa using hi
  rw [h1]
  simp only [BitVec.getLsbD_setWidth, BitVec.getLsbD_ushiftRight, BitVec.getLsbD_allOnes, Bool.and_eq_true,
    decide_eq_true_eq]
  omega

theorem byteLane_lt (be : Bool) (n i : Nat) (h : i < n) (hn : n ≤ 8) : byteLane be n i + 8 ≤ 64 := by
  unfold byteLane; split <;> omega

/-- The cells of a whole write: byte `i` at `pa + i`. -/
theorem valueCells_eq (be : Bool) (pa n : Nat) (v : DWord) (hn : n ≤ 8) :
    valueCells be pa n v =
      (List.range n).map fun i => (pa + i, (v >>> byteLane be n i).setWidth 8) := by
  unfold valueCells maskedCells
  rw [← List.filterMap_eq_map]
  apply List.filterMap_congr
  intro i hi
  rw [if_pos (allOnes_lane _ (byteLane_lt be n i (List.mem_range.1 hi) hn))]
  rfl

/-- The addresses of a whole write are the `n` bytes at `pa`. -/
theorem valueCells_addrs (be : Bool) (pa n : Nat) (v : DWord) (hn : n ≤ 8) :
    (valueCells be pa n v).map Prod.fst = (List.range n).map (pa + ·) := by
  simp [valueCells_eq be pa n v hn, Function.comp_def]

theorem valueCells_nodup (be : Bool) (pa n : Nat) (v : DWord) (hn : n ≤ 8) :
    ((valueCells be pa n v).map Prod.fst).Nodup := by
  rw [valueCells_addrs be pa n v hn]
  exact (List.nodup_range).map fun a b h => by simpa using h

/-- After a whole write, byte `i` of the value is the byte at `pa + i`. -/
theorem readByte_store (be : Bool) (m : Memory) (pa n : Nat) (v : DWord) (hm : Memory.wf m = true)
    (hn : n ≤ 8) (i : Nat) (hi : i < n) :
    Memory.readByte (Memory.writeCells m (valueCells be pa n v)) (pa + i) =
      (v >>> byteLane be n i).setWidth 8 := by
  refine readByte_writeCells_in _ _ _ _ hm (valueCells_nodup be pa n v hn) ?_
  rw [valueCells_eq be pa n v hn]
  exact List.mem_map.2 ⟨i, List.mem_range.2 hi, rfl⟩

/-- The bits of a wide read: bit `k` of byte `i` is bit `byteLane i + k` of the value. -/
theorem memRead_getLsbD (be : Bool) (m : Memory) (pa n j : Nat) :
    (memRead be m pa n).getLsbD j =
      (List.range n).any fun i =>
        decide (byteLane be n i ≤ j) && decide (j < 64) &&
          (Memory.readByte m (pa + i)).getLsbD (j - byteLane be n i) := by
  have gen : ∀ (l : List Nat) (acc : DWord),
      (l.foldl (fun acc i => acc ||| ((Memory.readByte m (pa + i)).setWidth 64 <<< byteLane be n i)) acc).getLsbD j =
        (acc.getLsbD j || l.any fun i =>
          decide (byteLane be n i ≤ j) && decide (j < 64) &&
            (Memory.readByte m (pa + i)).getLsbD (j - byteLane be n i)) := by
    intro l
    induction l with
    | nil => intro acc; simp
    | cons a rest ih =>
      intro acc
      rw [List.foldl_cons, ih]
      have hbit : (BitVec.setWidth 64 (Memory.readByte m (pa + a)) <<< byteLane be n a).getLsbD j =
          (decide (byteLane be n a ≤ j) && decide (j < 64) &&
            (Memory.readByte m (pa + a)).getLsbD (j - byteLane be n a)) := by
        simp only [BitVec.getLsbD_shiftLeft, BitVec.getLsbD_setWidth]
        by_cases h1 : j < byteLane be n a
        · have : ¬ byteLane be n a ≤ j := by omega
          simp [h1, this]
        · have h1' : byteLane be n a ≤ j := by omega
          by_cases h2 : j < 64
          · have h3 : j - byteLane be n a < 64 := by omega
            simp [h1, h1', h2, h3]
          · simp [h2]
      rw [BitVec.getLsbD_or, hbit, List.any_cons, Bool.or_assoc]
  rw [memRead, gen]
  simp

/-- Byte `i` of a wide read is the byte at `pa + i`. -/
theorem memRead_byte (be : Bool) (m : Memory) (pa n i : Nat) (hi : i < n) (hn : n ≤ 8) :
    (memRead be m pa n >>> byteLane be n i).setWidth 8 = Memory.readByte m (pa + i) := by
  apply BitVec.eq_of_getLsbD_eq
  intro k hk
  simp only [BitVec.getLsbD_setWidth, BitVec.getLsbD_ushiftRight, hk, decide_true, Bool.true_and]
  rw [memRead_getLsbD]
  apply Bool.eq_iff_iff.2
  simp only [List.any_eq_true, List.mem_range, Bool.and_eq_true, decide_eq_true_eq]
  constructor
  · rintro ⟨x, hx, ⟨h1, h2⟩, h3⟩
    have hlt := BitVec.lt_of_getLsbD h3
    have : x = i := by
      unfold byteLane at h1 hlt
      split at h1 <;> simp_all <;> omega
    subst this
    simpa using h3
  · intro h
    refine ⟨i, hi, ⟨by omega, ?_⟩, by simpa using h⟩
    have := byteLane_lt be n i hi hn
    omega

/-- The bits above a wide read are zero. -/
theorem memRead_high (be : Bool) (m : Memory) (pa n j : Nat) (hj : 8 * n ≤ j) :
    (memRead be m pa n).getLsbD j = false := by
  rw [memRead_getLsbD]
  apply Bool.eq_false_iff.2
  intro h
  simp only [List.any_eq_true, List.mem_range, Bool.and_eq_true, decide_eq_true_eq] at h
  obtain ⟨x, hx, ⟨h1, h2⟩, h3⟩ := h
  have hlt := BitVec.lt_of_getLsbD h3
  unfold byteLane at h1 hlt
  split at h1 <;> simp_all <;> omega

/-- Equal bytes give equal wide reads. -/
theorem memRead_congr (be : Bool) (m m' : Memory) (pa n : Nat)
    (h : ∀ i, i < n → Memory.readByte m' (pa + i) = Memory.readByte m (pa + i)) :
    memRead be m' pa n = memRead be m pa n := by
  unfold memRead
  have gen : ∀ (l : List Nat) (acc : DWord), (∀ i ∈ l, i < n) →
      l.foldl (fun acc i => acc ||| ((Memory.readByte m' (pa + i)).setWidth 64 <<< byteLane be n i)) acc =
        l.foldl (fun acc i => acc ||| ((Memory.readByte m (pa + i)).setWidth 64 <<< byteLane be n i)) acc := by
    intro l
    induction l with
    | nil => intro _ _; rfl
    | cons a rest ih =>
      intro acc hl
      rw [List.foldl_cons, List.foldl_cons, h a (hl a (List.mem_cons_self ..))]
      exact ih _ fun i hi => hl i (List.mem_cons_of_mem _ hi)
  exact gen _ _ fun i hi => List.mem_range.1 hi

end Sys2Proof.Machine
end

