-- ==== Sys2Proof/Laws/State.lean ====
section
/-! SUPPORT. What each update of the state leaves alone, one lemma per field per update, so that no later proof
unfolds an update to read a field it does not touch; and what it writes. -/

set_option Elab.async false

namespace Sys2Proof.Machine

/-! ### s.setX r v -/

@[simp] theorem setX_params (s : State) (r : Reg) (v : DWord) : (s.setX r v).params = s.params := by
  unfold State.setX; split <;> rfl
@[simp] theorem setX_pc (s : State) (r : Reg) (v : DWord) : (s.setX r v).pc = s.pc := by
  unfold State.setX; split <;> rfl
@[simp] theorem setX_hi (s : State) (r : Reg) (v : DWord) : (s.setX r v).hi = s.hi := by
  unfold State.setX; split <;> rfl
@[simp] theorem setX_lo (s : State) (r : Reg) (v : DWord) : (s.setX r v).lo = s.lo := by
  unfold State.setX; split <;> rfl
@[simp] theorem setX_f (s : State) (r : Reg) (v : DWord) : (s.setX r v).f = s.f := by
  unfold State.setX; split <;> rfl
@[simp] theorem setX_fcr31 (s : State) (r : Reg) (v : DWord) : (s.setX r v).fcr31 = s.fcr31 := by
  unfold State.setX; split <;> rfl
@[simp] theorem setX_bstate (s : State) (r : Reg) (v : DWord) : (s.setX r v).bstate = s.bstate := by
  unfold State.setX; split <;> rfl
@[simp] theorem setX_btarget (s : State) (r : Reg) (v : DWord) : (s.setX r v).btarget = s.btarget := by
  unfold State.setX; split <;> rfl
@[simp] theorem setX_llbit (s : State) (r : Reg) (v : DWord) : (s.setX r v).llbit = s.llbit := by
  unfold State.setX; split <;> rfl
@[simp] theorem setX_llLine (s : State) (r : Reg) (v : DWord) : (s.setX r v).llLine = s.llLine := by
  unfold State.setX; split <;> rfl
@[simp] theorem setX_countBase (s : State) (r : Reg) (v : DWord) : (s.setX r v).countBase = s.countBase := by
  unfold State.setX; split <;> rfl
@[simp] theorem setX_countZero (s : State) (r : Reg) (v : DWord) : (s.setX r v).countZero = s.countZero := by
  unfold State.setX; split <;> rfl
@[simp] theorem setX_timerSeen (s : State) (r : Reg) (v : DWord) : (s.setX r v).timerSeen = s.timerSeen := by
  unfold State.setX; split <;> rfl
@[simp] theorem setX_timerPending (s : State) (r : Reg) (v : DWord) : (s.setX r v).timerPending = s.timerPending := by
  unfold State.setX; split <;> rfl
@[simp] theorem setX_cycles (s : State) (r : Reg) (v : DWord) : (s.setX r v).cycles = s.cycles := by
  unfold State.setX; split <;> rfl
@[simp] theorem setX_extIrq (s : State) (r : Reg) (v : DWord) : (s.setX r v).extIrq = s.extIrq := by
  unfold State.setX; split <;> rfl
@[simp] theorem setX_tlb (s : State) (r : Reg) (v : DWord) : (s.setX r v).tlb = s.tlb := by
  unfold State.setX; split <;> rfl
@[simp] theorem setX_cp0 (s : State) (r : Reg) (v : DWord) : (s.setX r v).cp0 = s.cp0 := by
  unfold State.setX; split <;> rfl
@[simp] theorem setX_mem (s : State) (r : Reg) (v : DWord) : (s.setX r v).mem = s.mem := by
  unfold State.setX; split <;> rfl
@[simp] theorem setX_inputs (s : State) (r : Reg) (v : DWord) : (s.setX r v).inputs = s.inputs := by
  unfold State.setX; split <;> rfl
@[simp] theorem setX_draws (s : State) (r : Reg) (v : DWord) : (s.setX r v).draws = s.draws := by
  unfold State.setX; split <;> rfl

/-! ### s.forceX0 -/

@[simp] theorem forceX0_params (s : State) : (s.forceX0).params = s.params := rfl
@[simp] theorem forceX0_pc (s : State) : (s.forceX0).pc = s.pc := rfl
@[simp] theorem forceX0_hi (s : State) : (s.forceX0).hi = s.hi := rfl
@[simp] theorem forceX0_lo (s : State) : (s.forceX0).lo = s.lo := rfl
@[simp] theorem forceX0_f (s : State) : (s.forceX0).f = s.f := rfl
@[simp] theorem forceX0_fcr31 (s : State) : (s.forceX0).fcr31 = s.fcr31 := rfl
@[simp] theorem forceX0_bstate (s : State) : (s.forceX0).bstate = s.bstate := rfl
@[simp] theorem forceX0_btarget (s : State) : (s.forceX0).btarget = s.btarget := rfl
@[simp] theorem forceX0_llbit (s : State) : (s.forceX0).llbit = s.llbit := rfl
@[simp] theorem forceX0_llLine (s : State) : (s.forceX0).llLine = s.llLine := rfl
@[simp] theorem forceX0_countBase (s : State) : (s.forceX0).countBase = s.countBase := rfl
@[simp] theorem forceX0_countZero (s : State) : (s.forceX0).countZero = s.countZero := rfl
@[simp] theorem forceX0_timerSeen (s : State) : (s.forceX0).timerSeen = s.timerSeen := rfl
@[simp] theorem forceX0_timerPending (s : State) : (s.forceX0).timerPending = s.timerPending := rfl
@[simp] theorem forceX0_cycles (s : State) : (s.forceX0).cycles = s.cycles := rfl
@[simp] theorem forceX0_extIrq (s : State) : (s.forceX0).extIrq = s.extIrq := rfl
@[simp] theorem forceX0_tlb (s : State) : (s.forceX0).tlb = s.tlb := rfl
@[simp] theorem forceX0_cp0 (s : State) : (s.forceX0).cp0 = s.cp0 := rfl
@[simp] theorem forceX0_mem (s : State) : (s.forceX0).mem = s.mem := rfl
@[simp] theorem forceX0_inputs (s : State) : (s.forceX0).inputs = s.inputs := rfl
@[simp] theorem forceX0_draws (s : State) : (s.forceX0).draws = s.draws := rfl

/-! ### s.writeF32 n v -/

@[simp] theorem writeF32_params (s : State) (n : FReg) (v : Word) : (s.writeF32 n v).params = s.params := by
  unfold State.writeF32; split <;> [rfl; split <;> rfl]
@[simp] theorem writeF32_x (s : State) (n : FReg) (v : Word) : (s.writeF32 n v).x = s.x := by
  unfold State.writeF32; split <;> [rfl; split <;> rfl]
@[simp] theorem writeF32_pc (s : State) (n : FReg) (v : Word) : (s.writeF32 n v).pc = s.pc := by
  unfold State.writeF32; split <;> [rfl; split <;> rfl]
@[simp] theorem writeF32_hi (s : State) (n : FReg) (v : Word) : (s.writeF32 n v).hi = s.hi := by
  unfold State.writeF32; split <;> [rfl; split <;> rfl]
@[simp] theorem writeF32_lo (s : State) (n : FReg) (v : Word) : (s.writeF32 n v).lo = s.lo := by
  unfold State.writeF32; split <;> [rfl; split <;> rfl]
@[simp] theorem writeF32_fcr31 (s : State) (n : FReg) (v : Word) : (s.writeF32 n v).fcr31 = s.fcr31 := by
  unfold State.writeF32; split <;> [rfl; split <;> rfl]
@[simp] theorem writeF32_bstate (s : State) (n : FReg) (v : Word) : (s.writeF32 n v).bstate = s.bstate := by
  unfold State.writeF32; split <;> [rfl; split <;> rfl]
@[simp] theorem writeF32_btarget (s : State) (n : FReg) (v : Word) : (s.writeF32 n v).btarget = s.btarget := by
  unfold State.writeF32; split <;> [rfl; split <;> rfl]
@[simp] theorem writeF32_llbit (s : State) (n : FReg) (v : Word) : (s.writeF32 n v).llbit = s.llbit := by
  unfold State.writeF32; split <;> [rfl; split <;> rfl]
@[simp] theorem writeF32_llLine (s : State) (n : FReg) (v : Word) : (s.writeF32 n v).llLine = s.llLine := by
  unfold State.writeF32; split <;> [rfl; split <;> rfl]
@[simp] theorem writeF32_countBase (s : State) (n : FReg) (v : Word) : (s.writeF32 n v).countBase = s.countBase := by
  unfold State.writeF32; split <;> [rfl; split <;> rfl]
@[simp] theorem writeF32_countZero (s : State) (n : FReg) (v : Word) : (s.writeF32 n v).countZero = s.countZero := by
  unfold State.writeF32; split <;> [rfl; split <;> rfl]
@[simp] theorem writeF32_timerSeen (s : State) (n : FReg) (v : Word) : (s.writeF32 n v).timerSeen = s.timerSeen := by
  unfold State.writeF32; split <;> [rfl; split <;> rfl]
@[simp] theorem writeF32_timerPending (s : State) (n : FReg) (v : Word) : (s.writeF32 n v).timerPending = s.timerPending := by
  unfold State.writeF32; split <;> [rfl; split <;> rfl]
@[simp] theorem writeF32_cycles (s : State) (n : FReg) (v : Word) : (s.writeF32 n v).cycles = s.cycles := by
  unfold State.writeF32; split <;> [rfl; split <;> rfl]
@[simp] theorem writeF32_extIrq (s : State) (n : FReg) (v : Word) : (s.writeF32 n v).extIrq = s.extIrq := by
  unfold State.writeF32; split <;> [rfl; split <;> rfl]
@[simp] theorem writeF32_tlb (s : State) (n : FReg) (v : Word) : (s.writeF32 n v).tlb = s.tlb := by
  unfold State.writeF32; split <;> [rfl; split <;> rfl]
@[simp] theorem writeF32_cp0 (s : State) (n : FReg) (v : Word) : (s.writeF32 n v).cp0 = s.cp0 := by
  unfold State.writeF32; split <;> [rfl; split <;> rfl]
@[simp] theorem writeF32_mem (s : State) (n : FReg) (v : Word) : (s.writeF32 n v).mem = s.mem := by
  unfold State.writeF32; split <;> [rfl; split <;> rfl]
@[simp] theorem writeF32_inputs (s : State) (n : FReg) (v : Word) : (s.writeF32 n v).inputs = s.inputs := by
  unfold State.writeF32; split <;> [rfl; split <;> rfl]
@[simp] theorem writeF32_draws (s : State) (n : FReg) (v : Word) : (s.writeF32 n v).draws = s.draws := by
  unfold State.writeF32; split <;> [rfl; split <;> rfl]

/-! ### takeException c ce o s -/

@[simp] theorem takeException_params (s : State) (c : ExcCode) (ce : BitVec 2) (o : DWord) : (takeException c ce o s).params = s.params := rfl
@[simp] theorem takeException_x (s : State) (c : ExcCode) (ce : BitVec 2) (o : DWord) : (takeException c ce o s).x = s.x := rfl
@[simp] theorem takeException_hi (s : State) (c : ExcCode) (ce : BitVec 2) (o : DWord) : (takeException c ce o s).hi = s.hi := rfl
@[simp] theorem takeException_lo (s : State) (c : ExcCode) (ce : BitVec 2) (o : DWord) : (takeException c ce o s).lo = s.lo := rfl
@[simp] theorem takeException_f (s : State) (c : ExcCode) (ce : BitVec 2) (o : DWord) : (takeException c ce o s).f = s.f := rfl
@[simp] theorem takeException_fcr31 (s : State) (c : ExcCode) (ce : BitVec 2) (o : DWord) : (takeException c ce o s).fcr31 = s.fcr31 := rfl
@[simp] theorem takeException_btarget (s : State) (c : ExcCode) (ce : BitVec 2) (o : DWord) : (takeException c ce o s).btarget = s.btarget := rfl
@[simp] theorem takeException_llbit (s : State) (c : ExcCode) (ce : BitVec 2) (o : DWord) : (takeException c ce o s).llbit = s.llbit := rfl
@[simp] theorem takeException_llLine (s : State) (c : ExcCode) (ce : BitVec 2) (o : DWord) : (takeException c ce o s).llLine = s.llLine := rfl
@[simp] theorem takeException_countBase (s : State) (c : ExcCode) (ce : BitVec 2) (o : DWord) : (takeException c ce o s).countBase = s.countBase := rfl
@[simp] theorem takeException_countZero (s : State) (c : ExcCode) (ce : BitVec 2) (o : DWord) : (takeException c ce o s).countZero = s.countZero := rfl
@[simp] theorem takeException_timerSeen (s : State) (c : ExcCode) (ce : BitVec 2) (o : DWord) : (takeException c ce o s).timerSeen = s.timerSeen := rfl
@[simp] theorem takeException_timerPending (s : State) (c : ExcCode) (ce : BitVec 2) (o : DWord) : (takeException c ce o s).timerPending = s.timerPending := rfl
@[simp] theorem takeException_cycles (s : State) (c : ExcCode) (ce : BitVec 2) (o : DWord) : (takeException c ce o s).cycles = s.cycles := rfl
@[simp] theorem takeException_extIrq (s : State) (c : ExcCode) (ce : BitVec 2) (o : DWord) : (takeException c ce o s).extIrq = s.extIrq := rfl
@[simp] theorem takeException_tlb (s : State) (c : ExcCode) (ce : BitVec 2) (o : DWord) : (takeException c ce o s).tlb = s.tlb := rfl
@[simp] theorem takeException_mem (s : State) (c : ExcCode) (ce : BitVec 2) (o : DWord) : (takeException c ce o s).mem = s.mem := rfl
@[simp] theorem takeException_inputs (s : State) (c : ExcCode) (ce : BitVec 2) (o : DWord) : (takeException c ce o s).inputs = s.inputs := rfl
@[simp] theorem takeException_draws (s : State) (c : ExcCode) (ce : BitVec 2) (o : DWord) : (takeException c ce o s).draws = s.draws := rfl

/-! ### s.raise c -/

@[simp] theorem raise_params (s : State) (c : ExcCode) : (s.raise c).params = s.params := takeException_params s _ _ _
@[simp] theorem raise_x (s : State) (c : ExcCode) : (s.raise c).x = s.x := takeException_x s _ _ _
@[simp] theorem raise_hi (s : State) (c : ExcCode) : (s.raise c).hi = s.hi := takeException_hi s _ _ _
@[simp] theorem raise_lo (s : State) (c : ExcCode) : (s.raise c).lo = s.lo := takeException_lo s _ _ _
@[simp] theorem raise_f (s : State) (c : ExcCode) : (s.raise c).f = s.f := takeException_f s _ _ _
@[simp] theorem raise_fcr31 (s : State) (c : ExcCode) : (s.raise c).fcr31 = s.fcr31 := takeException_fcr31 s _ _ _
@[simp] theorem raise_btarget (s : State) (c : ExcCode) : (s.raise c).btarget = s.btarget := takeException_btarget s _ _ _
@[simp] theorem raise_llbit (s : State) (c : ExcCode) : (s.raise c).llbit = s.llbit := takeException_llbit s _ _ _
@[simp] theorem raise_llLine (s : State) (c : ExcCode) : (s.raise c).llLine = s.llLine := takeException_llLine s _ _ _
@[simp] theorem raise_countBase (s : State) (c : ExcCode) : (s.raise c).countBase = s.countBase := takeException_countBase s _ _ _
@[simp] theorem raise_countZero (s : State) (c : ExcCode) : (s.raise c).countZero = s.countZero := takeException_countZero s _ _ _
@[simp] theorem raise_timerSeen (s : State) (c : ExcCode) : (s.raise c).timerSeen = s.timerSeen := takeException_timerSeen s _ _ _
@[simp] theorem raise_timerPending (s : State) (c : ExcCode) : (s.raise c).timerPending = s.timerPending := takeException_timerPending s _ _ _
@[simp] theorem raise_cycles (s : State) (c : ExcCode) : (s.raise c).cycles = s.cycles := takeException_cycles s _ _ _
@[simp] theorem raise_extIrq (s : State) (c : ExcCode) : (s.raise c).extIrq = s.extIrq := takeException_extIrq s _ _ _
@[simp] theorem raise_tlb (s : State) (c : ExcCode) : (s.raise c).tlb = s.tlb := takeException_tlb s _ _ _
@[simp] theorem raise_mem (s : State) (c : ExcCode) : (s.raise c).mem = s.mem := takeException_mem s _ _ _
@[simp] theorem raise_inputs (s : State) (c : ExcCode) : (s.raise c).inputs = s.inputs := takeException_inputs s _ _ _
@[simp] theorem raise_draws (s : State) (c : ExcCode) : (s.raise c).draws = s.draws := takeException_draws s _ _ _

/-! ### s.raiseCpU n -/

@[simp] theorem raiseCpU_params (s : State) (n : BitVec 2) : (s.raiseCpU n).params = s.params := takeException_params s _ _ _
@[simp] theorem raiseCpU_x (s : State) (n : BitVec 2) : (s.raiseCpU n).x = s.x := takeException_x s _ _ _
@[simp] theorem raiseCpU_hi (s : State) (n : BitVec 2) : (s.raiseCpU n).hi = s.hi := takeException_hi s _ _ _
@[simp] theorem raiseCpU_lo (s : State) (n : BitVec 2) : (s.raiseCpU n).lo = s.lo := takeException_lo s _ _ _
@[simp] theorem raiseCpU_f (s : State) (n : BitVec 2) : (s.raiseCpU n).f = s.f := takeException_f s _ _ _
@[simp] theorem raiseCpU_fcr31 (s : State) (n : BitVec 2) : (s.raiseCpU n).fcr31 = s.fcr31 := takeException_fcr31 s _ _ _
@[simp] theorem raiseCpU_btarget (s : State) (n : BitVec 2) : (s.raiseCpU n).btarget = s.btarget := takeException_btarget s _ _ _
@[simp] theorem raiseCpU_llbit (s : State) (n : BitVec 2) : (s.raiseCpU n).llbit = s.llbit := takeException_llbit s _ _ _
@[simp] theorem raiseCpU_llLine (s : State) (n : BitVec 2) : (s.raiseCpU n).llLine = s.llLine := takeException_llLine s _ _ _
@[simp] theorem raiseCpU_countBase (s : State) (n : BitVec 2) : (s.raiseCpU n).countBase = s.countBase := takeException_countBase s _ _ _
@[simp] theorem raiseCpU_countZero (s : State) (n : BitVec 2) : (s.raiseCpU n).countZero = s.countZero := takeException_countZero s _ _ _
@[simp] theorem raiseCpU_timerSeen (s : State) (n : BitVec 2) : (s.raiseCpU n).timerSeen = s.timerSeen := takeException_timerSeen s _ _ _
@[simp] theorem raiseCpU_timerPending (s : State) (n : BitVec 2) : (s.raiseCpU n).timerPending = s.timerPending := takeException_timerPending s _ _ _
@[simp] theorem raiseCpU_cycles (s : State) (n : BitVec 2) : (s.raiseCpU n).cycles = s.cycles := takeException_cycles s _ _ _
@[simp] theorem raiseCpU_extIrq (s : State) (n : BitVec 2) : (s.raiseCpU n).extIrq = s.extIrq := takeException_extIrq s _ _ _
@[simp] theorem raiseCpU_tlb (s : State) (n : BitVec 2) : (s.raiseCpU n).tlb = s.tlb := takeException_tlb s _ _ _
@[simp] theorem raiseCpU_mem (s : State) (n : BitVec 2) : (s.raiseCpU n).mem = s.mem := takeException_mem s _ _ _
@[simp] theorem raiseCpU_inputs (s : State) (n : BitVec 2) : (s.raiseCpU n).inputs = s.inputs := takeException_inputs s _ _ _
@[simp] theorem raiseCpU_draws (s : State) (n : BitVec 2) : (s.raiseCpU n).draws = s.draws := takeException_draws s _ _ _

/-! ### returnFromException s -/

@[simp] theorem returnFromException_params (s : State) : (returnFromException s).params = s.params := by
  unfold returnFromException; split <;> rfl
@[simp] theorem returnFromException_x (s : State) : (returnFromException s).x = s.x := by
  unfold returnFromException; split <;> rfl
@[simp] theorem returnFromException_hi (s : State) : (returnFromException s).hi = s.hi := by
  unfold returnFromException; split <;> rfl
@[simp] theorem returnFromException_lo (s : State) : (returnFromException s).lo = s.lo := by
  unfold returnFromException; split <;> rfl
@[simp] theorem returnFromException_f (s : State) : (returnFromException s).f = s.f := by
  unfold returnFromException; split <;> rfl
@[simp] theorem returnFromException_fcr31 (s : State) : (returnFromException s).fcr31 = s.fcr31 := by
  unfold returnFromException; split <;> rfl
@[simp] theorem returnFromException_btarget (s : State) : (returnFromException s).btarget = s.btarget := by
  unfold returnFromException; split <;> rfl
@[simp] theorem returnFromException_llLine (s : State) : (returnFromException s).llLine = s.llLine := by
  unfold returnFromException; split <;> rfl
@[simp] theorem returnFromException_countBase (s : State) : (returnFromException s).countBase = s.countBase := by
  unfold returnFromException; split <;> rfl
@[simp] theorem returnFromException_countZero (s : State) : (returnFromException s).countZero = s.countZero := by
  unfold returnFromException; split <;> rfl
@[simp] theorem returnFromException_timerSeen (s : State) : (returnFromException s).timerSeen = s.timerSeen := by
  unfold returnFromException; split <;> rfl
@[simp] theorem returnFromException_timerPending (s : State) : (returnFromException s).timerPending = s.timerPending := by
  unfold returnFromException; split <;> rfl
@[simp] theorem returnFromException_cycles (s : State) : (returnFromException s).cycles = s.cycles := by
  unfold returnFromException; split <;> rfl
@[simp] theorem returnFromException_extIrq (s : State) : (returnFromException s).extIrq = s.extIrq := by
  unfold returnFromException; split <;> rfl
@[simp] theorem returnFromException_tlb (s : State) : (returnFromException s).tlb = s.tlb := by
  unfold returnFromException; split <;> rfl
@[simp] theorem returnFromException_mem (s : State) : (returnFromException s).mem = s.mem := by
  unfold returnFromException; split <;> rfl
@[simp] theorem returnFromException_inputs (s : State) : (returnFromException s).inputs = s.inputs := by
  unfold returnFromException; split <;> rfl
@[simp] theorem returnFromException_draws (s : State) : (returnFromException s).draws = s.draws := by
  unfold returnFromException; split <;> rfl

/-! ### s.tlbRegisters va -/

@[simp] theorem tlbRegisters_params (s : State) (va : DWord) : (s.tlbRegisters va).params = s.params := rfl
@[simp] theorem tlbRegisters_x (s : State) (va : DWord) : (s.tlbRegisters va).x = s.x := rfl
@[simp] theorem tlbRegisters_pc (s : State) (va : DWord) : (s.tlbRegisters va).pc = s.pc := rfl
@[simp] theorem tlbRegisters_hi (s : State) (va : DWord) : (s.tlbRegisters va).hi = s.hi := rfl
@[simp] theorem tlbRegisters_lo (s : State) (va : DWord) : (s.tlbRegisters va).lo = s.lo := rfl
@[simp] theorem tlbRegisters_f (s : State) (va : DWord) : (s.tlbRegisters va).f = s.f := rfl
@[simp] theorem tlbRegisters_fcr31 (s : State) (va : DWord) : (s.tlbRegisters va).fcr31 = s.fcr31 := rfl
@[simp] theorem tlbRegisters_bstate (s : State) (va : DWord) : (s.tlbRegisters va).bstate = s.bstate := rfl
@[simp] theorem tlbRegisters_btarget (s : State) (va : DWord) : (s.tlbRegisters va).btarget = s.btarget := rfl
@[simp] theorem tlbRegisters_llbit (s : State) (va : DWord) : (s.tlbRegisters va).llbit = s.llbit := rfl
@[simp] theorem tlbRegisters_llLine (s : State) (va : DWord) : (s.tlbRegisters va).llLine = s.llLine := rfl
@[simp] theorem tlbRegisters_countBase (s : State) (va : DWord) : (s.tlbRegisters va).countBase = s.countBase := rfl
@[simp] theorem tlbRegisters_countZero (s : State) (va : DWord) : (s.tlbRegisters va).countZero = s.countZero := rfl
@[simp] theorem tlbRegisters_timerSeen (s : State) (va : DWord) : (s.tlbRegisters va).timerSeen = s.timerSeen := rfl
@[simp] theorem tlbRegisters_timerPending (s : State) (va : DWord) : (s.tlbRegisters va).timerPending = s.timerPending := rfl
@[simp] theorem tlbRegisters_cycles (s : State) (va : DWord) : (s.tlbRegisters va).cycles = s.cycles := rfl
@[simp] theorem tlbRegisters_extIrq (s : State) (va : DWord) : (s.tlbRegisters va).extIrq = s.extIrq := rfl
@[simp] theorem tlbRegisters_tlb (s : State) (va : DWord) : (s.tlbRegisters va).tlb = s.tlb := rfl
@[simp] theorem tlbRegisters_mem (s : State) (va : DWord) : (s.tlbRegisters va).mem = s.mem := rfl
@[simp] theorem tlbRegisters_inputs (s : State) (va : DWord) : (s.tlbRegisters va).inputs = s.inputs := rfl
@[simp] theorem tlbRegisters_draws (s : State) (va : DWord) : (s.tlbRegisters va).draws = s.draws := rfl

/-! ### s.raiseTlb m k va -/

@[simp] theorem raiseTlb_params (s : State) (m : TlbMiss) (k : AccessKind) (va : DWord) : (s.raiseTlb m k va).params = s.params := rfl
@[simp] theorem raiseTlb_x (s : State) (m : TlbMiss) (k : AccessKind) (va : DWord) : (s.raiseTlb m k va).x = s.x := rfl
@[simp] theorem raiseTlb_hi (s : State) (m : TlbMiss) (k : AccessKind) (va : DWord) : (s.raiseTlb m k va).hi = s.hi := rfl
@[simp] theorem raiseTlb_lo (s : State) (m : TlbMiss) (k : AccessKind) (va : DWord) : (s.raiseTlb m k va).lo = s.lo := rfl
@[simp] theorem raiseTlb_f (s : State) (m : TlbMiss) (k : AccessKind) (va : DWord) : (s.raiseTlb m k va).f = s.f := rfl
@[simp] theorem raiseTlb_fcr31 (s : State) (m : TlbMiss) (k : AccessKind) (va : DWord) : (s.raiseTlb m k va).fcr31 = s.fcr31 := rfl
@[simp] theorem raiseTlb_btarget (s : State) (m : TlbMiss) (k : AccessKind) (va : DWord) : (s.raiseTlb m k va).btarget = s.btarget := rfl
@[simp] theorem raiseTlb_llbit (s : State) (m : TlbMiss) (k : AccessKind) (va : DWord) : (s.raiseTlb m k va).llbit = s.llbit := rfl
@[simp] theorem raiseTlb_llLine (s : State) (m : TlbMiss) (k : AccessKind) (va : DWord) : (s.raiseTlb m k va).llLine = s.llLine := rfl
@[simp] theorem raiseTlb_countBase (s : State) (m : TlbMiss) (k : AccessKind) (va : DWord) : (s.raiseTlb m k va).countBase = s.countBase := rfl
@[simp] theorem raiseTlb_countZero (s : State) (m : TlbMiss) (k : AccessKind) (va : DWord) : (s.raiseTlb m k va).countZero = s.countZero := rfl
@[simp] theorem raiseTlb_timerSeen (s : State) (m : TlbMiss) (k : AccessKind) (va : DWord) : (s.raiseTlb m k va).timerSeen = s.timerSeen := rfl
@[simp] theorem raiseTlb_timerPending (s : State) (m : TlbMiss) (k : AccessKind) (va : DWord) : (s.raiseTlb m k va).timerPending = s.timerPending := rfl
@[simp] theorem raiseTlb_cycles (s : State) (m : TlbMiss) (k : AccessKind) (va : DWord) : (s.raiseTlb m k va).cycles = s.cycles := rfl
@[simp] theorem raiseTlb_extIrq (s : State) (m : TlbMiss) (k : AccessKind) (va : DWord) : (s.raiseTlb m k va).extIrq = s.extIrq := rfl
@[simp] theorem raiseTlb_tlb (s : State) (m : TlbMiss) (k : AccessKind) (va : DWord) : (s.raiseTlb m k va).tlb = s.tlb := rfl
@[simp] theorem raiseTlb_mem (s : State) (m : TlbMiss) (k : AccessKind) (va : DWord) : (s.raiseTlb m k va).mem = s.mem := rfl
@[simp] theorem raiseTlb_inputs (s : State) (m : TlbMiss) (k : AccessKind) (va : DWord) : (s.raiseTlb m k va).inputs = s.inputs := rfl
@[simp] theorem raiseTlb_draws (s : State) (m : TlbMiss) (k : AccessKind) (va : DWord) : (s.raiseTlb m k va).draws = s.draws := rfl

/-! ### s.raiseAddressError k va -/

@[simp] theorem raiseAddressError_params (s : State) (k : AccessKind) (va : DWord) : (s.raiseAddressError k va).params = s.params := raise_params _ _
@[simp] theorem raiseAddressError_x (s : State) (k : AccessKind) (va : DWord) : (s.raiseAddressError k va).x = s.x := raise_x _ _
@[simp] theorem raiseAddressError_hi (s : State) (k : AccessKind) (va : DWord) : (s.raiseAddressError k va).hi = s.hi := raise_hi _ _
@[simp] theorem raiseAddressError_lo (s : State) (k : AccessKind) (va : DWord) : (s.raiseAddressError k va).lo = s.lo := raise_lo _ _
@[simp] theorem raiseAddressError_f (s : State) (k : AccessKind) (va : DWord) : (s.raiseAddressError k va).f = s.f := raise_f _ _
@[simp] theorem raiseAddressError_fcr31 (s : State) (k : AccessKind) (va : DWord) : (s.raiseAddressError k va).fcr31 = s.fcr31 := raise_fcr31 _ _
@[simp] theorem raiseAddressError_btarget (s : State) (k : AccessKind) (va : DWord) : (s.raiseAddressError k va).btarget = s.btarget := raise_btarget _ _
@[simp] theorem raiseAddressError_llbit (s : State) (k : AccessKind) (va : DWord) : (s.raiseAddressError k va).llbit = s.llbit := raise_llbit _ _
@[simp] theorem raiseAddressError_llLine (s : State) (k : AccessKind) (va : DWord) : (s.raiseAddressError k va).llLine = s.llLine := raise_llLine _ _
@[simp] theorem raiseAddressError_countBase (s : State) (k : AccessKind) (va : DWord) : (s.raiseAddressError k va).countBase = s.countBase := raise_countBase _ _
@[simp] theorem raiseAddressError_countZero (s : State) (k : AccessKind) (va : DWord) : (s.raiseAddressError k va).countZero = s.countZero := raise_countZero _ _
@[simp] theorem raiseAddressError_timerSeen (s : State) (k : AccessKind) (va : DWord) : (s.raiseAddressError k va).timerSeen = s.timerSeen := raise_timerSeen _ _
@[simp] theorem raiseAddressError_timerPending (s : State) (k : AccessKind) (va : DWord) : (s.raiseAddressError k va).timerPending = s.timerPending := raise_timerPending _ _
@[simp] theorem raiseAddressError_cycles (s : State) (k : AccessKind) (va : DWord) : (s.raiseAddressError k va).cycles = s.cycles := raise_cycles _ _
@[simp] theorem raiseAddressError_extIrq (s : State) (k : AccessKind) (va : DWord) : (s.raiseAddressError k va).extIrq = s.extIrq := raise_extIrq _ _
@[simp] theorem raiseAddressError_tlb (s : State) (k : AccessKind) (va : DWord) : (s.raiseAddressError k va).tlb = s.tlb := raise_tlb _ _
@[simp] theorem raiseAddressError_mem (s : State) (k : AccessKind) (va : DWord) : (s.raiseAddressError k va).mem = s.mem := raise_mem _ _
@[simp] theorem raiseAddressError_inputs (s : State) (k : AccessKind) (va : DWord) : (s.raiseAddressError k va).inputs = s.inputs := raise_inputs _ _
@[simp] theorem raiseAddressError_draws (s : State) (k : AccessKind) (va : DWord) : (s.raiseAddressError k va).draws = s.draws := raise_draws _ _

/-! ### s.writeCells cs -/

@[simp] theorem writeCells_params (s : State) (cs : List Host.Cell) : (s.writeCells cs).params = s.params := rfl
@[simp] theorem writeCells_x (s : State) (cs : List Host.Cell) : (s.writeCells cs).x = s.x := rfl
@[simp] theorem writeCells_pc (s : State) (cs : List Host.Cell) : (s.writeCells cs).pc = s.pc := rfl
@[simp] theorem writeCells_hi (s : State) (cs : List Host.Cell) : (s.writeCells cs).hi = s.hi := rfl
@[simp] theorem writeCells_lo (s : State) (cs : List Host.Cell) : (s.writeCells cs).lo = s.lo := rfl
@[simp] theorem writeCells_f (s : State) (cs : List Host.Cell) : (s.writeCells cs).f = s.f := rfl
@[simp] theorem writeCells_fcr31 (s : State) (cs : List Host.Cell) : (s.writeCells cs).fcr31 = s.fcr31 := rfl
@[simp] theorem writeCells_bstate (s : State) (cs : List Host.Cell) : (s.writeCells cs).bstate = s.bstate := rfl
@[simp] theorem writeCells_btarget (s : State) (cs : List Host.Cell) : (s.writeCells cs).btarget = s.btarget := rfl
@[simp] theorem writeCells_llLine (s : State) (cs : List Host.Cell) : (s.writeCells cs).llLine = s.llLine := rfl
@[simp] theorem writeCells_countBase (s : State) (cs : List Host.Cell) : (s.writeCells cs).countBase = s.countBase := rfl
@[simp] theorem writeCells_countZero (s : State) (cs : List Host.Cell) : (s.writeCells cs).countZero = s.countZero := rfl
@[simp] theorem writeCells_timerSeen (s : State) (cs : List Host.Cell) : (s.writeCells cs).timerSeen = s.timerSeen := rfl
@[simp] theorem writeCells_timerPending (s : State) (cs : List Host.Cell) : (s.writeCells cs).timerPending = s.timerPending := rfl
@[simp] theorem writeCells_cycles (s : State) (cs : List Host.Cell) : (s.writeCells cs).cycles = s.cycles := rfl
@[simp] theorem writeCells_extIrq (s : State) (cs : List Host.Cell) : (s.writeCells cs).extIrq = s.extIrq := rfl
@[simp] theorem writeCells_tlb (s : State) (cs : List Host.Cell) : (s.writeCells cs).tlb = s.tlb := rfl
@[simp] theorem writeCells_cp0 (s : State) (cs : List Host.Cell) : (s.writeCells cs).cp0 = s.cp0 := rfl
@[simp] theorem writeCells_inputs (s : State) (cs : List Host.Cell) : (s.writeCells cs).inputs = s.inputs := rfl
@[simp] theorem writeCells_draws (s : State) (cs : List Host.Cell) : (s.writeCells cs).draws = s.draws := rfl

/-! ### s.installObserver pa -/

@[simp] theorem installObserver_params (s : State) (pa : PAddr) : (s.installObserver pa).params = s.params := rfl
@[simp] theorem installObserver_x (s : State) (pa : PAddr) : (s.installObserver pa).x = s.x := rfl
@[simp] theorem installObserver_pc (s : State) (pa : PAddr) : (s.installObserver pa).pc = s.pc := rfl
@[simp] theorem installObserver_hi (s : State) (pa : PAddr) : (s.installObserver pa).hi = s.hi := rfl
@[simp] theorem installObserver_lo (s : State) (pa : PAddr) : (s.installObserver pa).lo = s.lo := rfl
@[simp] theorem installObserver_f (s : State) (pa : PAddr) : (s.installObserver pa).f = s.f := rfl
@[simp] theorem installObserver_fcr31 (s : State) (pa : PAddr) : (s.installObserver pa).fcr31 = s.fcr31 := rfl
@[simp] theorem installObserver_bstate (s : State) (pa : PAddr) : (s.installObserver pa).bstate = s.bstate := rfl
@[simp] theorem installObserver_btarget (s : State) (pa : PAddr) : (s.installObserver pa).btarget = s.btarget := rfl
@[simp] theorem installObserver_countBase (s : State) (pa : PAddr) : (s.installObserver pa).countBase = s.countBase := rfl
@[simp] theorem installObserver_countZero (s : State) (pa : PAddr) : (s.installObserver pa).countZero = s.countZero := rfl
@[simp] theorem installObserver_timerSeen (s : State) (pa : PAddr) : (s.installObserver pa).timerSeen = s.timerSeen := rfl
@[simp] theorem installObserver_timerPending (s : State) (pa : PAddr) : (s.installObserver pa).timerPending = s.timerPending := rfl
@[simp] theorem installObserver_cycles (s : State) (pa : PAddr) : (s.installObserver pa).cycles = s.cycles := rfl
@[simp] theorem installObserver_extIrq (s : State) (pa : PAddr) : (s.installObserver pa).extIrq = s.extIrq := rfl
@[simp] theorem installObserver_tlb (s : State) (pa : PAddr) : (s.installObserver pa).tlb = s.tlb := rfl
@[simp] theorem installObserver_mem (s : State) (pa : PAddr) : (s.installObserver pa).mem = s.mem := rfl
@[simp] theorem installObserver_inputs (s : State) (pa : PAddr) : (s.installObserver pa).inputs = s.inputs := rfl
@[simp] theorem installObserver_draws (s : State) (pa : PAddr) : (s.installObserver pa).draws = s.draws := rfl

/-! ### s.takeBranch a -/

@[simp] theorem takeBranch_params (s : State) (a : DWord) : (s.takeBranch a).params = s.params := rfl
@[simp] theorem takeBranch_x (s : State) (a : DWord) : (s.takeBranch a).x = s.x := rfl
@[simp] theorem takeBranch_pc (s : State) (a : DWord) : (s.takeBranch a).pc = s.pc := rfl
@[simp] theorem takeBranch_hi (s : State) (a : DWord) : (s.takeBranch a).hi = s.hi := rfl
@[simp] theorem takeBranch_lo (s : State) (a : DWord) : (s.takeBranch a).lo = s.lo := rfl
@[simp] theorem takeBranch_f (s : State) (a : DWord) : (s.takeBranch a).f = s.f := rfl
@[simp] theorem takeBranch_fcr31 (s : State) (a : DWord) : (s.takeBranch a).fcr31 = s.fcr31 := rfl
@[simp] theorem takeBranch_llbit (s : State) (a : DWord) : (s.takeBranch a).llbit = s.llbit := rfl
@[simp] theorem takeBranch_llLine (s : State) (a : DWord) : (s.takeBranch a).llLine = s.llLine := rfl
@[simp] theorem takeBranch_countBase (s : State) (a : DWord) : (s.takeBranch a).countBase = s.countBase := rfl
@[simp] theorem takeBranch_countZero (s : State) (a : DWord) : (s.takeBranch a).countZero = s.countZero := rfl
@[simp] theorem takeBranch_timerSeen (s : State) (a : DWord) : (s.takeBranch a).timerSeen = s.timerSeen := rfl
@[simp] theorem takeBranch_timerPending (s : State) (a : DWord) : (s.takeBranch a).timerPending = s.timerPending := rfl
@[simp] theorem takeBranch_cycles (s : State) (a : DWord) : (s.takeBranch a).cycles = s.cycles := rfl
@[simp] theorem takeBranch_extIrq (s : State) (a : DWord) : (s.takeBranch a).extIrq = s.extIrq := rfl
@[simp] theorem takeBranch_tlb (s : State) (a : DWord) : (s.takeBranch a).tlb = s.tlb := rfl
@[simp] theorem takeBranch_cp0 (s : State) (a : DWord) : (s.takeBranch a).cp0 = s.cp0 := rfl
@[simp] theorem takeBranch_mem (s : State) (a : DWord) : (s.takeBranch a).mem = s.mem := rfl
@[simp] theorem takeBranch_inputs (s : State) (a : DWord) : (s.takeBranch a).inputs = s.inputs := rfl
@[simp] theorem takeBranch_draws (s : State) (a : DWord) : (s.takeBranch a).draws = s.draws := rfl

/-! ### s.branchIf c a -/

@[simp] theorem branchIf_params (s : State) (c : Bool) (a : DWord) : (s.branchIf c a).params = s.params := by
  unfold State.branchIf; split <;> rfl
@[simp] theorem branchIf_x (s : State) (c : Bool) (a : DWord) : (s.branchIf c a).x = s.x := by
  unfold State.branchIf; split <;> rfl
@[simp] theorem branchIf_pc (s : State) (c : Bool) (a : DWord) : (s.branchIf c a).pc = s.pc := by
  unfold State.branchIf; split <;> rfl
@[simp] theorem branchIf_hi (s : State) (c : Bool) (a : DWord) : (s.branchIf c a).hi = s.hi := by
  unfold State.branchIf; split <;> rfl
@[simp] theorem branchIf_lo (s : State) (c : Bool) (a : DWord) : (s.branchIf c a).lo = s.lo := by
  unfold State.branchIf; split <;> rfl
@[simp] theorem branchIf_f (s : State) (c : Bool) (a : DWord) : (s.branchIf c a).f = s.f := by
  unfold State.branchIf; split <;> rfl
@[simp] theorem branchIf_fcr31 (s : State) (c : Bool) (a : DWord) : (s.branchIf c a).fcr31 = s.fcr31 := by
  unfold State.branchIf; split <;> rfl
@[simp] theorem branchIf_llbit (s : State) (c : Bool) (a : DWord) : (s.branchIf c a).llbit = s.llbit := by
  unfold State.branchIf; split <;> rfl
@[simp] theorem branchIf_llLine (s : State) (c : Bool) (a : DWord) : (s.branchIf c a).llLine = s.llLine := by
  unfold State.branchIf; split <;> rfl
@[simp] theorem branchIf_countBase (s : State) (c : Bool) (a : DWord) : (s.branchIf c a).countBase = s.countBase := by
  unfold State.branchIf; split <;> rfl
@[simp] theorem branchIf_countZero (s : State) (c : Bool) (a : DWord) : (s.branchIf c a).countZero = s.countZero := by
  unfold State.branchIf; split <;> rfl
@[simp] theorem branchIf_timerSeen (s : State) (c : Bool) (a : DWord) : (s.branchIf c a).timerSeen = s.timerSeen := by
  unfold State.branchIf; split <;> rfl
@[simp] theorem branchIf_timerPending (s : State) (c : Bool) (a : DWord) : (s.branchIf c a).timerPending = s.timerPending := by
  unfold State.branchIf; split <;> rfl
@[simp] theorem branchIf_cycles (s : State) (c : Bool) (a : DWord) : (s.branchIf c a).cycles = s.cycles := by
  unfold State.branchIf; split <;> rfl
@[simp] theorem branchIf_extIrq (s : State) (c : Bool) (a : DWord) : (s.branchIf c a).extIrq = s.extIrq := by
  unfold State.branchIf; split <;> rfl
@[simp] theorem branchIf_tlb (s : State) (c : Bool) (a : DWord) : (s.branchIf c a).tlb = s.tlb := by
  unfold State.branchIf; split <;> rfl
@[simp] theorem branchIf_cp0 (s : State) (c : Bool) (a : DWord) : (s.branchIf c a).cp0 = s.cp0 := by
  unfold State.branchIf; split <;> rfl
@[simp] theorem branchIf_mem (s : State) (c : Bool) (a : DWord) : (s.branchIf c a).mem = s.mem := by
  unfold State.branchIf; split <;> rfl
@[simp] theorem branchIf_inputs (s : State) (c : Bool) (a : DWord) : (s.branchIf c a).inputs = s.inputs := by
  unfold State.branchIf; split <;> rfl
@[simp] theorem branchIf_draws (s : State) (c : Bool) (a : DWord) : (s.branchIf c a).draws = s.draws := by
  unfold State.branchIf; split <;> rfl

/-! ### s.branchLikely c a -/

@[simp] theorem branchLikely_params (s : State) (c : Bool) (a : DWord) : (s.branchLikely c a).params = s.params := by
  unfold State.branchLikely; split <;> rfl
@[simp] theorem branchLikely_x (s : State) (c : Bool) (a : DWord) : (s.branchLikely c a).x = s.x := by
  unfold State.branchLikely; split <;> rfl
@[simp] theorem branchLikely_pc (s : State) (c : Bool) (a : DWord) : (s.branchLikely c a).pc = s.pc := by
  unfold State.branchLikely; split <;> rfl
@[simp] theorem branchLikely_hi (s : State) (c : Bool) (a : DWord) : (s.branchLikely c a).hi = s.hi := by
  unfold State.branchLikely; split <;> rfl
@[simp] theorem branchLikely_lo (s : State) (c : Bool) (a : DWord) : (s.branchLikely c a).lo = s.lo := by
  unfold State.branchLikely; split <;> rfl
@[simp] theorem branchLikely_f (s : State) (c : Bool) (a : DWord) : (s.branchLikely c a).f = s.f := by
  unfold State.branchLikely; split <;> rfl
@[simp] theorem branchLikely_fcr31 (s : State) (c : Bool) (a : DWord) : (s.branchLikely c a).fcr31 = s.fcr31 := by
  unfold State.branchLikely; split <;> rfl
@[simp] theorem branchLikely_llbit (s : State) (c : Bool) (a : DWord) : (s.branchLikely c a).llbit = s.llbit := by
  unfold State.branchLikely; split <;> rfl
@[simp] theorem branchLikely_llLine (s : State) (c : Bool) (a : DWord) : (s.branchLikely c a).llLine = s.llLine := by
  unfold State.branchLikely; split <;> rfl
@[simp] theorem branchLikely_countBase (s : State) (c : Bool) (a : DWord) : (s.branchLikely c a).countBase = s.countBase := by
  unfold State.branchLikely; split <;> rfl
@[simp] theorem branchLikely_countZero (s : State) (c : Bool) (a : DWord) : (s.branchLikely c a).countZero = s.countZero := by
  unfold State.branchLikely; split <;> rfl
@[simp] theorem branchLikely_timerSeen (s : State) (c : Bool) (a : DWord) : (s.branchLikely c a).timerSeen = s.timerSeen := by
  unfold State.branchLikely; split <;> rfl
@[simp] theorem branchLikely_timerPending (s : State) (c : Bool) (a : DWord) : (s.branchLikely c a).timerPending = s.timerPending := by
  unfold State.branchLikely; split <;> rfl
@[simp] theorem branchLikely_cycles (s : State) (c : Bool) (a : DWord) : (s.branchLikely c a).cycles = s.cycles := by
  unfold State.branchLikely; split <;> rfl
@[simp] theorem branchLikely_extIrq (s : State) (c : Bool) (a : DWord) : (s.branchLikely c a).extIrq = s.extIrq := by
  unfold State.branchLikely; split <;> rfl
@[simp] theorem branchLikely_tlb (s : State) (c : Bool) (a : DWord) : (s.branchLikely c a).tlb = s.tlb := by
  unfold State.branchLikely; split <;> rfl
@[simp] theorem branchLikely_cp0 (s : State) (c : Bool) (a : DWord) : (s.branchLikely c a).cp0 = s.cp0 := by
  unfold State.branchLikely; split <;> rfl
@[simp] theorem branchLikely_mem (s : State) (c : Bool) (a : DWord) : (s.branchLikely c a).mem = s.mem := by
  unfold State.branchLikely; split <;> rfl
@[simp] theorem branchLikely_inputs (s : State) (c : Bool) (a : DWord) : (s.branchLikely c a).inputs = s.inputs := by
  unfold State.branchLikely; split <;> rfl
@[simp] theorem branchLikely_draws (s : State) (c : Bool) (a : DWord) : (s.branchLikely c a).draws = s.draws := by
  unfold State.branchLikely; split <;> rfl

/-! ### s.setHiLo h l -/

@[simp] theorem setHiLo_params (s : State) (h l : DWord) : (s.setHiLo h l).params = s.params := rfl
@[simp] theorem setHiLo_x (s : State) (h l : DWord) : (s.setHiLo h l).x = s.x := rfl
@[simp] theorem setHiLo_pc (s : State) (h l : DWord) : (s.setHiLo h l).pc = s.pc := rfl
@[simp] theorem setHiLo_f (s : State) (h l : DWord) : (s.setHiLo h l).f = s.f := rfl
@[simp] theorem setHiLo_fcr31 (s : State) (h l : DWord) : (s.setHiLo h l).fcr31 = s.fcr31 := rfl
@[simp] theorem setHiLo_bstate (s : State) (h l : DWord) : (s.setHiLo h l).bstate = s.bstate := rfl
@[simp] theorem setHiLo_btarget (s : State) (h l : DWord) : (s.setHiLo h l).btarget = s.btarget := rfl
@[simp] theorem setHiLo_llbit (s : State) (h l : DWord) : (s.setHiLo h l).llbit = s.llbit := rfl
@[simp] theorem setHiLo_llLine (s : State) (h l : DWord) : (s.setHiLo h l).llLine = s.llLine := rfl
@[simp] theorem setHiLo_countBase (s : State) (h l : DWord) : (s.setHiLo h l).countBase = s.countBase := rfl
@[simp] theorem setHiLo_countZero (s : State) (h l : DWord) : (s.setHiLo h l).countZero = s.countZero := rfl
@[simp] theorem setHiLo_timerSeen (s : State) (h l : DWord) : (s.setHiLo h l).timerSeen = s.timerSeen := rfl
@[simp] theorem setHiLo_timerPending (s : State) (h l : DWord) : (s.setHiLo h l).timerPending = s.timerPending := rfl
@[simp] theorem setHiLo_cycles (s : State) (h l : DWord) : (s.setHiLo h l).cycles = s.cycles := rfl
@[simp] theorem setHiLo_extIrq (s : State) (h l : DWord) : (s.setHiLo h l).extIrq = s.extIrq := rfl
@[simp] theorem setHiLo_tlb (s : State) (h l : DWord) : (s.setHiLo h l).tlb = s.tlb := rfl
@[simp] theorem setHiLo_cp0 (s : State) (h l : DWord) : (s.setHiLo h l).cp0 = s.cp0 := rfl
@[simp] theorem setHiLo_mem (s : State) (h l : DWord) : (s.setHiLo h l).mem = s.mem := rfl
@[simp] theorem setHiLo_inputs (s : State) (h l : DWord) : (s.setHiLo h l).inputs = s.inputs := rfl
@[simp] theorem setHiLo_draws (s : State) (h l : DWord) : (s.setHiLo h l).draws = s.draws := rfl

/-! ### s.writeTlb i e -/

@[simp] theorem writeTlb_params (s : State) (i : Nat) (e : TlbEntry) : (s.writeTlb i e).params = s.params := by
  unfold State.writeTlb; split <;> rfl
@[simp] theorem writeTlb_x (s : State) (i : Nat) (e : TlbEntry) : (s.writeTlb i e).x = s.x := by
  unfold State.writeTlb; split <;> rfl
@[simp] theorem writeTlb_pc (s : State) (i : Nat) (e : TlbEntry) : (s.writeTlb i e).pc = s.pc := by
  unfold State.writeTlb; split <;> rfl
@[simp] theorem writeTlb_hi (s : State) (i : Nat) (e : TlbEntry) : (s.writeTlb i e).hi = s.hi := by
  unfold State.writeTlb; split <;> rfl
@[simp] theorem writeTlb_lo (s : State) (i : Nat) (e : TlbEntry) : (s.writeTlb i e).lo = s.lo := by
  unfold State.writeTlb; split <;> rfl
@[simp] theorem writeTlb_f (s : State) (i : Nat) (e : TlbEntry) : (s.writeTlb i e).f = s.f := by
  unfold State.writeTlb; split <;> rfl
@[simp] theorem writeTlb_fcr31 (s : State) (i : Nat) (e : TlbEntry) : (s.writeTlb i e).fcr31 = s.fcr31 := by
  unfold State.writeTlb; split <;> rfl
@[simp] theorem writeTlb_bstate (s : State) (i : Nat) (e : TlbEntry) : (s.writeTlb i e).bstate = s.bstate := by
  unfold State.writeTlb; split <;> rfl
@[simp] theorem writeTlb_btarget (s : State) (i : Nat) (e : TlbEntry) : (s.writeTlb i e).btarget = s.btarget := by
  unfold State.writeTlb; split <;> rfl
@[simp] theorem writeTlb_llbit (s : State) (i : Nat) (e : TlbEntry) : (s.writeTlb i e).llbit = s.llbit := by
  unfold State.writeTlb; split <;> rfl
@[simp] theorem writeTlb_llLine (s : State) (i : Nat) (e : TlbEntry) : (s.writeTlb i e).llLine = s.llLine := by
  unfold State.writeTlb; split <;> rfl
@[simp] theorem writeTlb_countBase (s : State) (i : Nat) (e : TlbEntry) : (s.writeTlb i e).countBase = s.countBase := by
  unfold State.writeTlb; split <;> rfl
@[simp] theorem writeTlb_countZero (s : State) (i : Nat) (e : TlbEntry) : (s.writeTlb i e).countZero = s.countZero := by
  unfold State.writeTlb; split <;> rfl
@[simp] theorem writeTlb_timerSeen (s : State) (i : Nat) (e : TlbEntry) : (s.writeTlb i e).timerSeen = s.timerSeen := by
  unfold State.writeTlb; split <;> rfl
@[simp] theorem writeTlb_timerPending (s : State) (i : Nat) (e : TlbEntry) : (s.writeTlb i e).timerPending = s.timerPending := by
  unfold State.writeTlb; split <;> rfl
@[simp] theorem writeTlb_cycles (s : State) (i : Nat) (e : TlbEntry) : (s.writeTlb i e).cycles = s.cycles := by
  unfold State.writeTlb; split <;> rfl
@[simp] theorem writeTlb_extIrq (s : State) (i : Nat) (e : TlbEntry) : (s.writeTlb i e).extIrq = s.extIrq := by
  unfold State.writeTlb; split <;> rfl
@[simp] theorem writeTlb_cp0 (s : State) (i : Nat) (e : TlbEntry) : (s.writeTlb i e).cp0 = s.cp0 := by
  unfold State.writeTlb; split <;> rfl
@[simp] theorem writeTlb_mem (s : State) (i : Nat) (e : TlbEntry) : (s.writeTlb i e).mem = s.mem := by
  unfold State.writeTlb; split <;> rfl
@[simp] theorem writeTlb_inputs (s : State) (i : Nat) (e : TlbEntry) : (s.writeTlb i e).inputs = s.inputs := by
  unfold State.writeTlb; split <;> rfl
@[simp] theorem writeTlb_draws (s : State) (i : Nat) (e : TlbEntry) : (s.writeTlb i e).draws = s.draws := by
  unfold State.writeTlb; split <;> rfl

/-! ### s.wrCp0 n v -/

@[simp] theorem wrCp0_params (s : State) (n : CReg) (v : DWord) : (s.wrCp0 n v).params = s.params := by
  unfold State.wrCp0; split <;> [rfl; split <;> rfl]
@[simp] theorem wrCp0_x (s : State) (n : CReg) (v : DWord) : (s.wrCp0 n v).x = s.x := by
  unfold State.wrCp0; split <;> [rfl; split <;> rfl]
@[simp] theorem wrCp0_pc (s : State) (n : CReg) (v : DWord) : (s.wrCp0 n v).pc = s.pc := by
  unfold State.wrCp0; split <;> [rfl; split <;> rfl]
@[simp] theorem wrCp0_hi (s : State) (n : CReg) (v : DWord) : (s.wrCp0 n v).hi = s.hi := by
  unfold State.wrCp0; split <;> [rfl; split <;> rfl]
@[simp] theorem wrCp0_lo (s : State) (n : CReg) (v : DWord) : (s.wrCp0 n v).lo = s.lo := by
  unfold State.wrCp0; split <;> [rfl; split <;> rfl]
@[simp] theorem wrCp0_f (s : State) (n : CReg) (v : DWord) : (s.wrCp0 n v).f = s.f := by
  unfold State.wrCp0; split <;> [rfl; split <;> rfl]
@[simp] theorem wrCp0_fcr31 (s : State) (n : CReg) (v : DWord) : (s.wrCp0 n v).fcr31 = s.fcr31 := by
  unfold State.wrCp0; split <;> [rfl; split <;> rfl]
@[simp] theorem wrCp0_bstate (s : State) (n : CReg) (v : DWord) : (s.wrCp0 n v).bstate = s.bstate := by
  unfold State.wrCp0; split <;> [rfl; split <;> rfl]
@[simp] theorem wrCp0_btarget (s : State) (n : CReg) (v : DWord) : (s.wrCp0 n v).btarget = s.btarget := by
  unfold State.wrCp0; split <;> [rfl; split <;> rfl]
@[simp] theorem wrCp0_llbit (s : State) (n : CReg) (v : DWord) : (s.wrCp0 n v).llbit = s.llbit := by
  unfold State.wrCp0; split <;> [rfl; split <;> rfl]
@[simp] theorem wrCp0_llLine (s : State) (n : CReg) (v : DWord) : (s.wrCp0 n v).llLine = s.llLine := by
  unfold State.wrCp0; split <;> [rfl; split <;> rfl]
@[simp] theorem wrCp0_timerSeen (s : State) (n : CReg) (v : DWord) : (s.wrCp0 n v).timerSeen = s.timerSeen := by
  unfold State.wrCp0; split <;> [rfl; split <;> rfl]
@[simp] theorem wrCp0_cycles (s : State) (n : CReg) (v : DWord) : (s.wrCp0 n v).cycles = s.cycles := by
  unfold State.wrCp0; split <;> [rfl; split <;> rfl]
@[simp] theorem wrCp0_extIrq (s : State) (n : CReg) (v : DWord) : (s.wrCp0 n v).extIrq = s.extIrq := by
  unfold State.wrCp0; split <;> [rfl; split <;> rfl]
@[simp] theorem wrCp0_tlb (s : State) (n : CReg) (v : DWord) : (s.wrCp0 n v).tlb = s.tlb := by
  unfold State.wrCp0; split <;> [rfl; split <;> rfl]
@[simp] theorem wrCp0_mem (s : State) (n : CReg) (v : DWord) : (s.wrCp0 n v).mem = s.mem := by
  unfold State.wrCp0; split <;> [rfl; split <;> rfl]
@[simp] theorem wrCp0_inputs (s : State) (n : CReg) (v : DWord) : (s.wrCp0 n v).inputs = s.inputs := by
  unfold State.wrCp0; split <;> [rfl; split <;> rfl]
@[simp] theorem wrCp0_draws (s : State) (n : CReg) (v : DWord) : (s.wrCp0 n v).draws = s.draws := by
  unfold State.wrCp0; split <;> [rfl; split <;> rfl]

/-! ### updateTimer s -/

@[simp] theorem updateTimer_params (s : State) : (updateTimer s).params = s.params := rfl
@[simp] theorem updateTimer_x (s : State) : (updateTimer s).x = s.x := rfl
@[simp] theorem updateTimer_pc (s : State) : (updateTimer s).pc = s.pc := rfl
@[simp] theorem updateTimer_hi (s : State) : (updateTimer s).hi = s.hi := rfl
@[simp] theorem updateTimer_lo (s : State) : (updateTimer s).lo = s.lo := rfl
@[simp] theorem updateTimer_f (s : State) : (updateTimer s).f = s.f := rfl
@[simp] theorem updateTimer_fcr31 (s : State) : (updateTimer s).fcr31 = s.fcr31 := rfl
@[simp] theorem updateTimer_bstate (s : State) : (updateTimer s).bstate = s.bstate := rfl
@[simp] theorem updateTimer_btarget (s : State) : (updateTimer s).btarget = s.btarget := rfl
@[simp] theorem updateTimer_llbit (s : State) : (updateTimer s).llbit = s.llbit := rfl
@[simp] theorem updateTimer_llLine (s : State) : (updateTimer s).llLine = s.llLine := rfl
@[simp] theorem updateTimer_countBase (s : State) : (updateTimer s).countBase = s.countBase := rfl
@[simp] theorem updateTimer_countZero (s : State) : (updateTimer s).countZero = s.countZero := rfl
@[simp] theorem updateTimer_cycles (s : State) : (updateTimer s).cycles = s.cycles := rfl
@[simp] theorem updateTimer_extIrq (s : State) : (updateTimer s).extIrq = s.extIrq := rfl
@[simp] theorem updateTimer_tlb (s : State) : (updateTimer s).tlb = s.tlb := rfl
@[simp] theorem updateTimer_cp0 (s : State) : (updateTimer s).cp0 = s.cp0 := rfl
@[simp] theorem updateTimer_mem (s : State) : (updateTimer s).mem = s.mem := rfl
@[simp] theorem updateTimer_inputs (s : State) : (updateTimer s).inputs = s.inputs := rfl
@[simp] theorem updateTimer_draws (s : State) : (updateTimer s).draws = s.draws := rfl

/-! ### advance s -/

@[simp] theorem advance_params (s : State) : (advance s).params = s.params := by
  unfold advance; split <;> rfl
@[simp] theorem advance_x (s : State) : (advance s).x = s.x := by
  unfold advance; split <;> rfl
@[simp] theorem advance_hi (s : State) : (advance s).hi = s.hi := by
  unfold advance; split <;> rfl
@[simp] theorem advance_lo (s : State) : (advance s).lo = s.lo := by
  unfold advance; split <;> rfl
@[simp] theorem advance_f (s : State) : (advance s).f = s.f := by
  unfold advance; split <;> rfl
@[simp] theorem advance_fcr31 (s : State) : (advance s).fcr31 = s.fcr31 := by
  unfold advance; split <;> rfl
@[simp] theorem advance_btarget (s : State) : (advance s).btarget = s.btarget := by
  unfold advance; split <;> rfl
@[simp] theorem advance_llbit (s : State) : (advance s).llbit = s.llbit := by
  unfold advance; split <;> rfl
@[simp] theorem advance_llLine (s : State) : (advance s).llLine = s.llLine := by
  unfold advance; split <;> rfl
@[simp] theorem advance_countBase (s : State) : (advance s).countBase = s.countBase := by
  unfold advance; split <;> rfl
@[simp] theorem advance_countZero (s : State) : (advance s).countZero = s.countZero := by
  unfold advance; split <;> rfl
@[simp] theorem advance_timerSeen (s : State) : (advance s).timerSeen = s.timerSeen := by
  unfold advance; split <;> rfl
@[simp] theorem advance_timerPending (s : State) : (advance s).timerPending = s.timerPending := by
  unfold advance; split <;> rfl
@[simp] theorem advance_cycles (s : State) : (advance s).cycles = s.cycles := by
  unfold advance; split <;> rfl
@[simp] theorem advance_extIrq (s : State) : (advance s).extIrq = s.extIrq := by
  unfold advance; split <;> rfl
@[simp] theorem advance_tlb (s : State) : (advance s).tlb = s.tlb := by
  unfold advance; split <;> rfl
@[simp] theorem advance_cp0 (s : State) : (advance s).cp0 = s.cp0 := by
  unfold advance; split <;> rfl
@[simp] theorem advance_mem (s : State) : (advance s).mem = s.mem := by
  unfold advance; split <;> rfl
@[simp] theorem advance_inputs (s : State) : (advance s).inputs = s.inputs := by
  unfold advance; split <;> rfl
@[simp] theorem advance_draws (s : State) : (advance s).draws = s.draws := by
  unfold advance; split <;> rfl

/-! ### endStep o s -/

@[simp] theorem endStep_params (s : State) (o : Option Instr) : (endStep o s).params = s.params := by
  simp [endStep]
@[simp] theorem endStep_x (s : State) (o : Option Instr) : (endStep o s).x = s.x := by
  simp [endStep]
@[simp] theorem endStep_hi (s : State) (o : Option Instr) : (endStep o s).hi = s.hi := by
  simp [endStep]
@[simp] theorem endStep_lo (s : State) (o : Option Instr) : (endStep o s).lo = s.lo := by
  simp [endStep]
@[simp] theorem endStep_f (s : State) (o : Option Instr) : (endStep o s).f = s.f := by
  simp [endStep]
@[simp] theorem endStep_fcr31 (s : State) (o : Option Instr) : (endStep o s).fcr31 = s.fcr31 := by
  simp [endStep]
@[simp] theorem endStep_btarget (s : State) (o : Option Instr) : (endStep o s).btarget = s.btarget := by
  simp [endStep]
@[simp] theorem endStep_llbit (s : State) (o : Option Instr) : (endStep o s).llbit = s.llbit := by
  simp [endStep]
@[simp] theorem endStep_llLine (s : State) (o : Option Instr) : (endStep o s).llLine = s.llLine := by
  simp [endStep]
@[simp] theorem endStep_countBase (s : State) (o : Option Instr) : (endStep o s).countBase = s.countBase := by
  simp [endStep]
@[simp] theorem endStep_countZero (s : State) (o : Option Instr) : (endStep o s).countZero = s.countZero := by
  simp [endStep]
@[simp] theorem endStep_timerSeen (s : State) (o : Option Instr) : (endStep o s).timerSeen = s.timerSeen := by
  simp [endStep]
@[simp] theorem endStep_timerPending (s : State) (o : Option Instr) : (endStep o s).timerPending = s.timerPending := by
  simp [endStep]
@[simp] theorem endStep_extIrq (s : State) (o : Option Instr) : (endStep o s).extIrq = s.extIrq := by
  simp [endStep]
@[simp] theorem endStep_tlb (s : State) (o : Option Instr) : (endStep o s).tlb = s.tlb := by
  simp [endStep]
@[simp] theorem endStep_cp0 (s : State) (o : Option Instr) : (endStep o s).cp0 = s.cp0 := by
  simp [endStep]
@[simp] theorem endStep_mem (s : State) (o : Option Instr) : (endStep o s).mem = s.mem := by
  simp [endStep]
@[simp] theorem endStep_inputs (s : State) (o : Option Instr) : (endStep o s).inputs = s.inputs := by
  simp [endStep]

/-! ## General registers -/

@[simp] theorem getX_zero (s : State) : s.getX 0 = 0#64 := rfl

theorem getX_of_ne (s : State) (r : Reg) (h : r ≠ 0) : s.getX r = s.x[r.val] := by
  simp [State.getX, h]

@[simp] theorem setX_zero (s : State) (v : DWord) : s.setX 0 v = s := rfl

/-- A written register other than `$0` reads as what was written. -/
theorem getX_setX_same (s : State) (r : Reg) (v : DWord) (h : r ≠ 0) : (s.setX r v).getX r = v := by
  simp [State.getX, State.setX, h]

/-- Every other register reads as before. -/
theorem getX_setX_ne (s : State) (r q : Reg) (v : DWord) (h : q ≠ r) : (s.setX r v).getX q = s.getX q := by
  by_cases hr : r = 0
  · simp [hr]
  · by_cases hq : q = 0
    · simp [hq]
    · have hv : r.val ≠ q.val := fun e => h (Fin.ext e.symm)
      simp [State.getX, State.setX, hr, hq, hv]

/-- A read after a write, both cases. -/
theorem getX_setX (s : State) (r q : Reg) (v : DWord) :
    (s.setX r v).getX q = if q = r ∧ r ≠ 0 then v else s.getX q := by
  by_cases h : q = r
  · subst h
    by_cases hq : q = 0
    · simp [hq]
    · simp [hq, getX_setX_same]
  · simp [h, getX_setX_ne]

/-- A read depends on the register file alone. -/
theorem getX_congr (s t : State) (r : Reg) (h : t.x = s.x) : t.getX r = s.getX r := by
  simp [State.getX, h]

@[simp] theorem getX_forceX0 (s : State) (r : Reg) : s.forceX0.getX r = s.getX r := by
  by_cases h : r = 0
  · simp [h]
  · have hv : 0 ≠ r.val := fun e => h (Fin.ext e.symm)
    simp [State.getX, State.forceX0, h, hv]

/-- Writing a register changes nothing but the register file. -/
theorem setX_eq (s : State) (r : Reg) (v : DWord) : s.setX r v = { s with x := (s.setX r v).x } := by
  unfold State.setX; split <;> rfl

@[simp] theorem setX_x_zero (s : State) (r : Reg) (v : DWord) : (s.setX r v).x[0] = s.x[0] := by
  unfold State.setX
  split
  · rfl
  · rename_i h
    have hv : r.val ≠ 0 := fun e => h (Fin.ext e)
    simp [hv]

@[simp] theorem forceX0_x_zero (s : State) : s.forceX0.x[0] = 0#64 := by
  simp [State.forceX0]

/-! ## The fields an update writes -/

@[simp] theorem raise_bstate (s : State) (c : ExcCode) : (s.raise c).bstate = .exception := rfl
@[simp] theorem raiseCpU_bstate (s : State) (n : BitVec 2) : (s.raiseCpU n).bstate = .exception := rfl
@[simp] theorem takeException_bstate (s : State) (c : ExcCode) (ce : BitVec 2) (o : DWord) :
    (takeException c ce o s).bstate = .exception := rfl
@[simp] theorem raise_pc (s : State) (c : ExcCode) : (s.raise c).pc = s.vectorBase + generalOffset := rfl
@[simp] theorem raiseCpU_pc (s : State) (n : BitVec 2) : (s.raiseCpU n).pc = s.vectorBase + generalOffset := rfl
@[simp] theorem takeBranch_btarget (s : State) (a : DWord) : (s.takeBranch a).btarget = a := rfl
@[simp] theorem takeBranch_bstate (s : State) (a : DWord) : (s.takeBranch a).bstate = .branch := rfl
@[simp] theorem setHiLo_hi (s : State) (h l : DWord) : (s.setHiLo h l).hi = h := rfl
@[simp] theorem setHiLo_lo (s : State) (h l : DWord) : (s.setHiLo h l).lo = l := rfl
@[simp] theorem installObserver_llbit (s : State) (pa : PAddr) : (s.installObserver pa).llbit = true := rfl
@[simp] theorem updateTimer_timerSeen (s : State) : (updateTimer s).timerSeen = s.cycles := rfl
@[simp] theorem endStep_draws (s : State) (o : Option Instr) : (endStep o s).draws = s.draws + 1 := by
  simp [endStep]
@[simp] theorem endStep_cycles (s : State) (o : Option Instr) :
    (endStep o s).cycles = s.cycles + (1 + Config.extraCycles o) := by
  simp [endStep]
@[simp] theorem endStep_pc (s : State) (o : Option Instr) : (endStep o s).pc = (advance s).pc := rfl
@[simp] theorem endStep_bstate (s : State) (o : Option Instr) : (endStep o s).bstate = (advance s).bstate := rfl

/-- After the advance the sequencer is at a boundary. -/
theorem advance_atBoundary (s : State) : (advance s).bstate = .none ∨ (advance s).bstate = .delay := by
  unfold advance
  split <;> simp_all

end Sys2Proof.Machine
end

