-- ==== Sys2Proof/Laws/Ops.lean ====
section
/-! SUPPORT. One specification lemma per shared operation, cited instead of unfolding it. -/

namespace Sys2Proof.Machine

/-! ## Guards -/

@[simp] theorem guardOps64_ok (s : State) (r : Result) (h : s.ops64 = true) : guardOps64 s r = r := by
  simp [guardOps64, h]

@[simp] theorem guardOps64_ri (s : State) (r : Result) (h : s.ops64 = false) :
    guardOps64 s r = .next (s.raise .ri) := by
  simp [guardOps64, h]

@[simp] theorem guardCp0_ok (s : State) (r : Result) (h : s.cp0Usable = true) : guardCp0 s r = r := by
  simp [guardCp0, h]

@[simp] theorem guardCp0_cpu (s : State) (r : Result) (h : s.cp0Usable = false) :
    guardCp0 s r = .next (s.raiseCpU 0#2) := by
  simp [guardCp0, h]

@[simp] theorem guardCp1_ok (s : State) (r : Result) (h : s.cp1Usable = true) : guardCp1 s r = r := by
  simp [guardCp1, h]

@[simp] theorem guardCp1_cpu (s : State) (r : Result) (h : s.cp1Usable = false) :
    guardCp1 s r = .next (s.raiseCpU 1#2) := by
  simp [guardCp1, h]

/-- What a guarded result can be. -/
theorem guardOps64_next (s t : State) (r : Result) (h : guardOps64 s r = .next t) :
    r = .next t ∨ t = s.raise .ri := by
  unfold guardOps64 at h
  split at h
  · exact .inl h
  · exact .inr (by simpa using h.symm)

theorem guardCp0_next (s t : State) (r : Result) (h : guardCp0 s r = .next t) :
    r = .next t ∨ t = s.raiseCpU 0#2 := by
  unfold guardCp0 at h
  split at h
  · exact .inl h
  · exact .inr (by simpa using h.symm)

theorem guardCp1_next (s t : State) (r : Result) (h : guardCp1 s r = .next t) :
    r = .next t ∨ t = s.raiseCpU 1#2 := by
  unfold guardCp1 at h
  split at h
  · exact .inl h
  · exact .inr (by simpa using h.symm)

/-- The coprocessor-2 stub's only next state. -/
theorem cop2Stub_next (s t : State) (h : cop2Stub s = .next t) : t = s.raiseCpU 2#2 := by
  unfold cop2Stub at h
  split at h
  · simp at h
  · simpa using h.symm

/-- What a trap's result can be. -/
theorem trapIf_next (s t : State) (c : Bool) (h : trapIf s c = .next t) : t = s ∨ t = s.raise .tr := by
  unfold trapIf at h
  simp only [Host.Outcome.next.injEq] at h
  split at h <;> simp_all

/-! ## Accesses -/

@[simp] theorem andThen_done {α : Type} (a : α) (k : α → Result) : (Access.done a).andThen k = k a := rfl
@[simp] theorem andThen_raised {α : Type} (t : State) (k : α → Result) :
    (Access.raised t : Access α).andThen k = .next t := rfl
@[simp] theorem andThen_refused {α : Type} (q : Refusal) (k : α → Result) :
    (Access.refused q : Access α).andThen k = .refused q := rfl

/-- An access that leads to a next state completed, or raised that state. -/
theorem andThen_next {α : Type} (a : Access α) (k : α → Result) (t : State) (h : a.andThen k = .next t) :
    (∃ v, a = .done v ∧ k v = .next t) ∨ a = .raised t := by
  cases a with
  | done v => exact .inl ⟨v, rfl, h⟩
  | raised u => simp only [andThen_raised, Host.Outcome.next.injEq] at h; exact .inr (by rw [h])
  | refused q => simp at h

/-- The watchpoint test is the watchpoint condition (R115). -/
theorem watchHit_iff (s : State) (k : AccessKind) (pa : PAddr) : s.watchHit k pa = true ↔ Watched s k pa := by
  have hp : pa.extractLsb' 3 33 = s.cp0.watchHi.extractLsb' 0 4 ++ s.cp0.watchLo.extractLsb' 3 29 ↔
      pa.toNat / 8 = s.cp0.watchHi.toNat % 2 ^ 4 * 2 ^ 29 + s.cp0.watchLo.toNat / 8 := by
    have h1 := pa.isLt
    have h2 := s.cp0.watchLo.isLt
    have h3 : s.cp0.watchLo.toNat / 8 < 2 ^ 29 := by omega
    rw [← BitVec.toNat_inj, BitVec.toNat_append, BitVec.extractLsb'_toNat, BitVec.extractLsb'_toNat,
      BitVec.extractLsb'_toNat, Nat.shiftRight_eq_div_pow, Nat.shiftRight_eq_div_pow, Nat.shiftRight_eq_div_pow]
    rw [show s.cp0.watchLo.toNat / 2 ^ 3 % 2 ^ 29 = s.cp0.watchLo.toNat / 8 by omega,
      ← Nat.shiftLeft_add_eq_or_of_lt h3, Nat.shiftLeft_eq,
      show pa.toNat / 2 ^ 3 % 2 ^ 33 = pa.toNat / 8 by omega]
    norm_num
  unfold State.watchHit Watched State.exl State.erl
  rw [← hp]
  cases k <;> simp [and_assoc]

theorem watchHit_false (s : State) (k : AccessKind) (pa : PAddr) : s.watchHit k pa = false ↔ ¬Watched s k pa := by
  rw [← watchHit_iff, Bool.not_eq_true]

/-- A fetch is never watched (R112, R115). -/
theorem not_watched_fetch (s : State) (pa : PAddr) : ¬Watched s .fetch pa := by
  rintro ⟨-, -, h | h, -⟩ <;> simp at h

/-- `locate` completes exactly on a translation that is not watched. -/
theorem locate_done (s : State) (k : AccessKind) (va : DWord) (pa : PAddr) :
    locate s k va = .done pa ↔ (∃ p, translate s k va = .ok pa p) ∧ ¬Watched s k pa := by
  rw [← watchHit_false]
  unfold locate
  split
  · rename_i pa' p h
    rw [h]
    by_cases hw : s.watchHit k pa' = true
    · rw [if_pos hw]
      constructor
      · intro h'; simp at h'
      · rintro ⟨⟨p', hp⟩, hf⟩
        simp only [Translation.ok.injEq] at hp
        rw [hp.1] at hw
        simp [hw] at hf
    · rw [if_neg hw]
      constructor
      · intro h'
        simp only [Access.done.injEq] at h'
        subst h'
        exact ⟨⟨p, rfl⟩, by simpa using hw⟩
      · rintro ⟨⟨p', hp⟩, _⟩
        simp only [Translation.ok.injEq] at hp
        rw [hp.1]
  all_goals
    rename_i h
    rw [h]
    simp

/-- The exceptions `locate` can raise. -/
theorem locate_raised (s t : State) (k : AccessKind) (va : DWord) (h : locate s k va = .raised t) :
    t = s.raise .watch ∨ t = s.raiseAddressError k va ∨ ∃ m, t = s.raiseTlb m k va := by
  unfold locate at h
  split at h
  · split at h
    · simp only [Access.raised.injEq] at h; exact .inl h.symm
    · simp at h
  · simp only [Access.raised.injEq] at h; exact .inr (.inl h.symm)
  · rename_i m _; simp only [Access.raised.injEq] at h; exact .inr (.inr ⟨m, h.symm⟩)
  · simp at h

theorem checkedLocate_done (s : State) (k : AccessKind) (va : DWord) (n : Nat) (pa : PAddr) :
    checkedLocate s k va n = .done pa ↔ AccessOk s k va n pa := by
  unfold checkedLocate AccessOk
  split
  · rename_i h; simp [h]
  · rename_i h
    rw [locate_done]
    have : va.toNat % n = 0 := by simpa using h
    simp [this]

theorem checkedLocate_misaligned (s : State) (k : AccessKind) (va : DWord) (n : Nat) (h : va.toNat % n ≠ 0) :
    checkedLocate s k va n = .raised (s.raiseAddressError k va) := by
  simp [checkedLocate, h]

/-- The exceptions an access can raise. -/
theorem checkedLocate_raised (s t : State) (k : AccessKind) (va : DWord) (n : Nat)
    (h : checkedLocate s k va n = .raised t) :
    t = s.raise .watch ∨ t = s.raiseAddressError k va ∨ ∃ m, t = s.raiseTlb m k va := by
  unfold checkedLocate at h
  split at h
  · simp only [Access.raised.injEq] at h; exact .inr (.inl h.symm)
  · exact locate_raised _ _ _ _ h

/-- `Load` on an access that succeeds (R110). -/
theorem load_ok (s : State) (va : DWord) (n : Nat) (pa : PAddr) (h : AccessOk s .load va n pa) :
    load s va n = .done (pa, memRead s.params.bigEndian s.mem (s.dataAddress pa n).toNat n) := by
  unfold load; rw [(checkedLocate_done ..).2 h]

/-- `Store` on an access that succeeds (R111). -/
theorem store_ok (s : State) (va : DWord) (n : Nat) (v : DWord) (pa : PAddr) (h : AccessOk s .store va n pa) :
    store s va n v = .done (s.writeCells (s.storeCellsAt pa n v)) := by
  unfold store; rw [(checkedLocate_done ..).2 h]

/-- `Fetch` on an access that succeeds (R112). -/
theorem fetch_ok (s : State) (va : DWord) (pa : PAddr) (h : AccessOk s .fetch va 4 pa) :
    fetch s va = .done ((memRead s.params.bigEndian s.mem pa.toNat 4).setWidth 32) := by
  unfold fetch; rw [(checkedLocate_done ..).2 h]

/-- What a completed `Store` did. -/
theorem store_done (s t : State) (va : DWord) (n : Nat) (v : DWord) (h : store s va n v = .done t) :
    ∃ pa, AccessOk s .store va n pa ∧ t = s.writeCells (s.storeCellsAt pa n v) := by
  unfold store at h
  split at h
  · rename_i pa hc
    simp only [Access.done.injEq] at h
    exact ⟨pa, (checkedLocate_done ..).1 hc, h.symm⟩
  · simp at h
  · simp at h

theorem store_raised (s t : State) (va : DWord) (n : Nat) (v : DWord) (h : store s va n v = .raised t) :
    t = s.raise .watch ∨ t = s.raiseAddressError .store va ∨ ∃ m, t = s.raiseTlb m .store va := by
  unfold store at h
  split at h
  · simp at h
  · rename_i u hc
    simp only [Access.raised.injEq] at h; subst h
    exact checkedLocate_raised _ _ _ _ _ hc
  · simp at h

theorem load_raised (s t : State) (va : DWord) (n : Nat) (h : load s va n = .raised t) :
    t = s.raise .watch ∨ t = s.raiseAddressError .load va ∨ ∃ m, t = s.raiseTlb m .load va := by
  unfold load at h
  split at h
  · simp at h
  · rename_i u hc
    simp only [Access.raised.injEq] at h; subst h
    exact checkedLocate_raised _ _ _ _ _ hc
  · simp at h

theorem fetch_raised (s t : State) (va : DWord) (h : fetch s va = .raised t) :
    t = s.raise .watch ∨ t = s.raiseAddressError .fetch va ∨ ∃ m, t = s.raiseTlb m .fetch va := by
  unfold fetch at h
  split at h
  · simp at h
  · rename_i u hc
    simp only [Access.raised.injEq] at h; subst h
    exact checkedLocate_raised _ _ _ _ _ hc
  · simp at h

/-- `PartAddr` on an access that succeeds (R363). -/
theorem partAddr_ok (s : State) (k : AccessKind) (va : DWord) (n : Nat) (pa : PAddr) (h : PartOk s k va pa) :
    partAddr s k va n =
      .done (((if s.reverseEndian then pa ^^^ 7#36 else pa).toNat -
          (if s.reverseEndian then pa ^^^ 7#36 else pa).toNat % n),
        (if s.reverseEndian then pa ^^^ 7#36 else pa).toNat % n) := by
  unfold partAddr; rw [(locate_done ..).2 h]

theorem partAddr_raised (s t : State) (k : AccessKind) (va : DWord) (n : Nat)
    (h : partAddr s k va n = .raised t) :
    t = s.raise .watch ∨ t = s.raiseAddressError k va ∨ ∃ m, t = s.raiseTlb m k va := by
  unfold partAddr at h
  split at h
  · simp at h
  · rename_i u hc
    simp only [Access.raised.injEq] at h; subst h
    exact locate_raised _ _ _ _ hc
  · simp at h

/-! ## Floating-point completion -/

/-- What `FpFinish` can lead to (R482). -/
theorem fpFinish_next (s t : State) (fl : FpFlags) (commit : State → Result)
    (h : fpFinish s fl commit = .next t) :
    (fl &&& fcrEnable s.fcr31 ≠ 0#5 ∧ t = State.raise { s with fcr31 := fcrSetCause s.fcr31 fl } .fpe) ∨
      (fl &&& fcrEnable s.fcr31 = 0#5 ∧
        commit { s with fcr31 := fcrOrFlag (fcrSetCause s.fcr31 fl) fl } = .next t) := by
  unfold fpFinish at h
  split at h
  · rename_i hf; exact .inl ⟨hf, by simpa using h.symm⟩
  · rename_i hf; exact .inr ⟨by simpa using hf, h⟩

/-- A committed 64-bit result. -/
theorem commitF64_next (s t : State) (n : FReg) (v : DWord) (h : commitF64 s n v = .next t) :
    t = { s with f := s.f.set n.val v } := by
  unfold commitF64 State.writeF64 at h
  split at h
  · rename_i u hu
    split at hu
    · simp only [Option.some.injEq] at hu
      simp only [Host.Outcome.next.injEq] at h
      rw [← h, ← hu]
    · simp at hu
  · simp at h

/-- A 64-bit operand that was read. -/
theorem withF64_next (s t : State) (n : FReg) (k : DWord → Result) (h : withF64 s n k = .next t) :
    k s.f[n.val] = .next t := by
  unfold withF64 State.readF64 at h
  split at h
  · rename_i v hv
    split at hv
    · simp only [Option.some.injEq] at hv; rw [hv]; exact h
    · simp at hv
  · simp at h

/-- A legal 64-bit operand is read (R481). -/
theorem withF64_legal (s : State) (n : FReg) (k : DWord → Result) (h : s.f64Legal n = true) :
    withF64 s n k = k s.f[n.val] := by
  simp [withF64, State.readF64, h]

/-- A legal 64-bit result is written (R481). -/
theorem commitF64_legal (s : State) (n : FReg) (v : DWord) (h : s.f64Legal n = true) :
    commitF64 s n v = .next { s with f := s.f.set n.val v } := by
  simp [commitF64, State.writeF64, h]

/-! ## Exceptions -/

/-- Entry with EXL = 0 (R621). -/
theorem takeException_first (s : State) (c : ExcCode) (ce : BitVec 2) (o : DWord) (h : s.exl = false) :
    takeException c ce o s =
      { s with
        cp0 :=
          { s.cp0 with
            cause := causeWithBd (causeWithCode s.cp0.cause (excNumber c) ce) (decide (s.bstate = .delay))
            epc := if s.bstate = .delay then s.pc - 4#64 else s.pc
            status := s.cp0.status ||| exlMask }
        pc := s.vectorBase + o
        bstate := .exception } := by
  simp [takeException, h]

/-- Entry with EXL = 1 (R621). -/
theorem takeException_nested (s : State) (c : ExcCode) (ce : BitVec 2) (o : DWord) (h : s.exl = true) :
    takeException c ce o s =
      { s with
        cp0 := { s.cp0 with cause := causeWithCode s.cp0.cause (excNumber c) ce }
        pc := s.vectorBase + o
        bstate := .exception } := by
  simp [takeException, h]

/-! ## Steps -/

/-- The end of a step never leaves the next states. -/
theorem finishStep_next (o : Option Instr) (r : Result) (t : State) (h : finishStep o r = .next t) :
    ∃ u, r = .next u ∧ t = endStep o u.forceX0 := by
  cases r with
  | next u => exact ⟨u, rfl, by simpa [finishStep] using h.symm⟩
  | fault f => simp [finishStep] at h
  | refused q => simp [finishStep] at h

/-- What a step that gives a next state did: an interrupt, an exception of the fetch, an instruction, or a
reserved word. -/
theorem step_next (s t : State) (h : step s = .next t) :
    ((beginStep s).interruptTaken = true ∧ t = endStep none ((beginStep s).raise .int)) ∨
      ((beginStep s).interruptTaken = false ∧
        ((∃ u, fetch (beginStep s) (beginStep s).pc = .raised u ∧ t = endStep none u.forceX0) ∨
          ∃ w, fetch (beginStep s) (beginStep s).pc = .done w ∧
            ((∃ i u, decode w = .instr i ∧ exec i (beginStep s) = .next u ∧ t = endStep (some i) u.forceX0) ∨
              ∃ k u, decode w = .reserved k ∧ execReserved k (beginStep s) = .next u ∧
                t = endStep none u.forceX0))) := by
  unfold step stepWith at h
  simp only at h
  split at h
  · rename_i hi; exact .inl ⟨hi, by simpa using h.symm⟩
  · rename_i hi
    refine .inr ⟨by simpa using hi, ?_⟩
    split at h
    · rename_i w hw
      refine .inr ⟨w, hw, ?_⟩
      unfold executeWord at h
      split at h
      · rename_i i hd
        obtain ⟨u, hu, ht⟩ := finishStep_next _ _ _ h
        exact .inl ⟨i, u, hd, hu, ht⟩
      · rename_i k hd
        obtain ⟨u, hu, ht⟩ := finishStep_next _ _ _ h
        exact .inr ⟨k, u, hd, hu, ht⟩
    · rename_i u hu
      obtain ⟨u', hu', ht⟩ := finishStep_next _ _ _ h
      simp only [Host.Outcome.next.injEq] at hu'
      exact .inl ⟨u, hu, by rw [ht, hu']⟩
    · simp at h

/-! ## Address arithmetic -/

/-- An address whose low 12 bits are those of an aligned address is aligned. -/
theorem aligned_of_low12 (va : DWord) (pa : PAddr) (n : Nat) (hn : n = 1 ∨ n = 2 ∨ n = 4 ∨ n = 8)
    (hl : pa.toNat % 4096 = va.toNat % 4096) (ha : va.toNat % n = 0) : pa.toNat % n = 0 := by
  rcases hn with rfl | rfl | rfl | rfl <;> omega

/-! ## The probe of the TLB -/

/-- The entry is consulted and passed over by the probe: its Mask is legal and it does not match. -/
def State.passes (s : State) (va : DWord) (i : Fin 48) : Prop :=
  legalMask s.tlb[i.val].mask = true ∧ entryMatches s.addr64 s.asid va s.tlb[i.val] = false

/-- What a probe can answer: the first entry it does not pass over, refused when its Mask is illegal and found
when it matches; P when it passes over all (R450, U12). -/
theorem probeScan_spec (s : State) (va : DWord) (l : List (Fin 48)) :
    (s.probeScan va l = some 0x80000000#32 ∧ ∀ i ∈ l, s.passes va i) ∨
      ∃ before i after, l = before ++ i :: after ∧ (∀ j ∈ before, s.passes va j) ∧
        ((legalMask s.tlb[i.val].mask = false ∧ s.probeScan va l = none) ∨
          (legalMask s.tlb[i.val].mask = true ∧ entryMatches s.addr64 s.asid va s.tlb[i.val] = true ∧
            s.probeScan va l = some (BitVec.ofNat 32 i.val))) := by
  induction l with
  | nil => exact .inl ⟨rfl, by simp⟩
  | cons a rest ih =>
    by_cases hl : legalMask s.tlb[a.val].mask = true
    · by_cases hm : entryMatches s.addr64 s.asid va s.tlb[a.val] = true
      · exact .inr ⟨[], a, rest, rfl, by simp, .inr ⟨hl, hm, by simp [State.probeScan, hl, hm]⟩⟩
      · have hp : s.passes va a := ⟨hl, by simpa using hm⟩
        have hs : s.probeScan va (a :: rest) = s.probeScan va rest := by simp [State.probeScan, hl, hm]
        rw [hs]
        obtain ⟨h, hall⟩ | ⟨b, i, c, rfl, hb, h⟩ := ih
        · exact .inl ⟨h, by simpa using ⟨hp, hall⟩⟩
        · exact .inr ⟨a :: b, i, c, rfl, by simpa using ⟨hp, hb⟩, h⟩
    · exact .inr ⟨[], a, rest, rfl, by simp, .inl ⟨by simpa using hl, by simp [State.probeScan, hl]⟩⟩

end Sys2Proof.Machine
end

