-- ==== Sys2Proof/Laws/Inv.lean ====
section
/-! SUPPORT. The invariant and the shared operations: the part of it that holds inside a step too, and the
operations that keep it; the alignment and the range of the physical addresses of an access. -/

set_option Elab.async false

namespace Sys2Proof.Machine

/-! ## Bits -/

theorem or_and_distrib {n : Nat} (x y z : BitVec n) : (x ||| y) &&& z = (x &&& z) ||| (y &&& z) := by
  ext i hi
  simp [Bool.and_or_distrib_right]

theorem and_swap {n : Nat} (x y z : BitVec n) : x &&& y &&& z = x &&& z &&& y := by
  ext i hi
  simp [Bool.and_right_comm]

theorem and_mask_not {n : Nat} (v m : BitVec n) : v &&& m &&& ~~~m = 0#n := by
  ext i hi
  simp

/-! ## Translation keeps the page offset -/

theorem classify_low (s : State) (va : DWord) (pa : PAddr) (p : Policy) (h : classify s va = .unmapped pa p)
    (i : Nat) (hi : i < 12) : pa.getLsbD i = va.getLsbD i := by
  have hk : ∀ q q', unmapped29 va q = .unmapped pa q' → pa.getLsbD i = va.getLsbD i := by
    intro q q' h
    simp only [unmapped29, Segment.unmapped.injEq] at h
    rw [← h.1, BitVec.getLsbD_setWidth, BitVec.getLsbD_extractLsb']
    have h1 : i < 36 := by omega
    have h2 : i < 29 := by omega
    simp [h1, h2]
  have hl : ∀ q', unmapped31 va = .unmapped pa q' → pa.getLsbD i = va.getLsbD i := by
    intro q' h
    simp only [unmapped31, Segment.unmapped.injEq] at h
    rw [← h.1, BitVec.getLsbD_setWidth, BitVec.getLsbD_extractLsb']
    have h1 : i < 36 := by omega
    have h2 : i < 31 := by omega
    simp [h1, h2]
  have hx : ∀ q', classifyXkphys va = .unmapped pa q' → pa.getLsbD i = va.getLsbD i := by
    intro q' h
    unfold classifyXkphys at h
    split at h
    · simp at h
    · simp only [Segment.unmapped.injEq] at h
      rw [← h.1, BitVec.getLsbD_setWidth]
      have h1 : i < 36 := by omega
      simp [h1]
  have hc : classifyCompat va = .unmapped pa p → pa.getLsbD i = va.getLsbD i := by
    intro h
    unfold classifyCompat at h
    split at h
    · exact hk _ _ h
    · split at h
      · exact hk _ _ h
      · split at h
        · simp at h
        · split at h <;> simp at h
  unfold classify at h
  split at h
  · split at h
    · unfold classifyKernel64 at h
      split at h
      · split at h
        · exact hl _ h
        · simp at h
      · split at h
        · simp at h
        · split at h
          · exact hx _ h
          · split at h
            · simp at h
            · exact hc h
    · unfold classifyKernel32 at h
      split at h
      · split at h
        · exact hl _ h
        · simp at h
      · exact hc h
  · split at h
    · unfold classifySupervisor at h
      split at h <;> (repeat' (split at h)) <;> simp at h
    · unfold classifyUser at h
      split at h <;> (repeat' (split at h)) <;> simp at h

theorem offMask_low (e : TlbEntry) (i : Nat) (hi : i < 12) : (offMask e).getLsbD i = true := by
  have h1 : (0xFFF#36).getLsbD i = true := by interval_cases i <;> rfl
  simp [offMask, BitVec.getLsbD_or, h1]

theorem entryOutcome_low (k : AccessKind) (va : DWord) (e : TlbEntry) (pa : PAddr) (p : Policy)
    (h : entryOutcome k va e = .ok pa p) (i : Nat) (hi : i < 12) : pa.getLsbD i = va.getLsbD i := by
  unfold entryOutcome at h
  simp only at h
  generalize (if va.getLsbD (evenOddBit e) = true then e.lo1 else e.lo0) = lo at h
  split at h
  · simp at h
  · split at h
    · simp at h
    · simp only [Translation.ok.injEq] at h
      rw [← h.1]
      have h1 : i < 36 := by omega
      have h2 := offMask_low e i hi
      simp only [BitVec.getLsbD_or, BitVec.getLsbD_and, BitVec.getLsbD_not, h2, BitVec.getLsbD_setWidth, h1]
      simp

/-- The twelve low bits of an address are kept by translation (R129). -/
theorem translate_low (s : State) (k : AccessKind) (va : DWord) (pa : PAddr) (p : Policy)
    (h : translate s k va = .ok pa p) (i : Nat) (hi : i < 12) : pa.getLsbD i = va.getLsbD i := by
  unfold translate at h
  split at h
  · rename_i pa' p' hc
    simp only [Translation.ok.injEq] at h
    rw [← h.1]
    exact classify_low s va pa' p' hc i hi
  · simp at h
  · split at h
    · simp at h
    · split at h
      · simp at h
      · exact entryOutcome_low _ _ _ _ _ h i hi

theorem translate_low12 (s : State) (k : AccessKind) (va : DWord) (pa : PAddr) (p : Policy)
    (h : translate s k va = .ok pa p) : pa.toNat % 4096 = va.toNat % 4096 := by
  have e : pa.setWidth 12 = va.setWidth 12 := by
    apply BitVec.eq_of_getLsbD_eq
    intro i hi
    simp only [BitVec.getLsbD_setWidth, translate_low s k va pa p h i hi]
  have := congrArg BitVec.toNat e
  simpa using this

/-- The physical address of an aligned access is aligned. -/
theorem accessOk_aligned (s : State) (k : AccessKind) (va : DWord) (n : Nat) (pa : PAddr)
    (hn : n = 1 ∨ n = 2 ∨ n = 4 ∨ n = 8) (h : AccessOk s k va n pa) : pa.toNat % n = 0 := by
  obtain ⟨ha, ⟨p, hp⟩, _⟩ := h
  exact aligned_of_low12 va pa n hn (translate_low12 s k va pa p hp) ha

/-- An exclusive or below 8 acts within the doubleword. -/
theorem xor_low (a m : Nat) (h : m < 8) : a ^^^ m = a - a % 8 + (a % 8 ^^^ m) := by
  have h1 : (a ^^^ m) % 2 ^ 3 = (a % 8) ^^^ m := by
    rw [Nat.xor_mod_two_pow, Nat.mod_eq_of_lt (a := m) (by omega)]
  have h2 : (a ^^^ m) / 2 ^ 3 = a / 8 := by
    rw [Nat.xor_div_two_pow, Nat.div_eq_of_lt (a := m) (by omega), Nat.xor_zero]
  omega

/-- The address of a data access, reversed or not, is aligned (R108). -/
theorem dataAddress_aligned (s : State) (pa : PAddr) (n : Nat) (hn : n = 1 ∨ n = 2 ∨ n = 4 ∨ n = 8)
    (h : pa.toNat % n = 0) : (s.dataAddress pa n).toNat % n = 0 := by
  unfold State.dataAddress
  split
  · rcases hn with rfl | rfl | rfl | rfl
    · omega
    · have := Nat.xor_mod_two_pow (a := pa.toNat) (b := 6) (n := 1)
      simp_all
    · have := Nat.xor_mod_two_pow (a := pa.toNat) (b := 4) (n := 2)
      simp_all
    · have := Nat.xor_mod_two_pow (a := pa.toNat) (b := 0) (n := 3)
      simp_all
  · exact h

/-- The address of an aligned data access is the first byte the statements name (R108). -/
theorem dataAddress_toNat (s : State) (pa : PAddr) (n : Nat) (hn : n = 1 ∨ n = 2 ∨ n = 4 ∨ n = 8)
    (h : pa.toNat % n = 0) : (s.dataAddress pa n).toNat = firstByte s pa n := by
  have key : ∀ o : Fin 8, ∀ q ∈ [1, 2, 4, 8], o.val % q = 0 → o.val ^^^ (8 - q) = 8 - q - o.val := by decide
  unfold State.dataAddress firstByte State.reverseEndian State.re
  simp only [Bool.and_eq_true]
  split
  · have hx := xor_low pa.toNat (8 - n) (by rcases hn with rfl | rfl | rfl | rfl <;> omega)
    have hk := key ⟨pa.toNat % 8, Nat.mod_lt _ (by omega)⟩ n
      (by rcases hn with rfl | rfl | rfl | rfl <;> simp) (by rcases hn with rfl | rfl | rfl | rfl <;> simp <;> omega)
    rw [BitVec.toNat_xor, BitVec.toNat_ofNat, Nat.mod_eq_of_lt (by omega), hx]
    exact congrArg _ hk
  · rfl

/-- The byte address a partial access splits is the one the statements name (R363). -/
theorem partByte_eq (s : State) (pa : PAddr) :
    (if s.reverseEndian then pa ^^^ 7#36 else pa).toNat = partByte s pa := by
  have h := dataAddress_toNat s pa 1 (.inl rfl) (Nat.mod_one _)
  exact h

/-- An aligned access ends inside the physical space. -/
theorem aligned_end (a : PAddr) (n : Nat) (hn : n = 1 ∨ n = 2 ∨ n = 4 ∨ n = 8) (h : a.toNat % n = 0) :
    a.toNat + n ≤ 2 ^ 36 := by
  have := a.isLt
  rcases hn with rfl | rfl | rfl | rfl <;> omega

/-- The bytes a store writes lie in the physical space. -/
theorem storeCells_inSpace (s : State) (va : DWord) (n : Nat) (v : DWord) (pa : PAddr)
    (hn : n = 1 ∨ n = 2 ∨ n = 4 ∨ n = 8) (h : AccessOk s .store va n pa) :
    ∀ c ∈ s.storeCellsAt pa n v, c.1 < 2 ^ 36 := by
  intro c hc
  have h1 := maskedCells_addr _ _ _ _ _ _ hc
  have h2 := aligned_end _ n hn (dataAddress_aligned s pa n hn (accessOk_aligned s .store va n pa hn h))
  omega

/-! ## The invariant inside a step -/

/-- The part of the invariant that holds at every moment of a step. -/
structure MidInv (s : State) : Prop where
  memWf : Memory.wf s.mem = true
  memInSpace : Memory.inSpace s.mem = true
  zeroReg : s.x[0] = 0#64
  fcr31Reserved : s.fcr31 &&& ~~~fcr31Mask = 0#32
  cp0Reserved : s.cp0.reservedOk s.params = true
  lineAligned : s.llLine &&& BitVec.ofNat 36 (s.params.llLineBytes - 1) = 0#36
  timeBase : s.countZero ≤ s.cycles
  timerUpdate : s.timerSeen ≤ s.cycles

theorem MidInv.of_inv {s : State} (h : s.Inv) : MidInv s :=
  ⟨h.memWf, h.memInSpace, h.zeroReg, h.fcr31Reserved, h.cp0Reserved, h.lineAligned, h.timeBase, h.timerUpdate⟩

theorem State.Inv.of_mid {s : State} (h : MidInv s) (hb : s.bstate.atBoundary = true) : s.Inv :=
  ⟨h.memWf, h.memInSpace, h.zeroReg, hb, h.fcr31Reserved, h.cp0Reserved, h.lineAligned, h.timeBase,
    h.timerUpdate⟩

/-- The invariant depends on these fields alone. -/
theorem MidInv.congr {s t : State} (h : MidInv s) (hm : t.mem = s.mem) (hx : t.x[0] = s.x[0])
    (hf : t.fcr31 = s.fcr31) (hc : t.cp0 = s.cp0) (hp : t.params = s.params) (hl : t.llLine = s.llLine)
    (hz : t.countZero = s.countZero) (ht : t.timerSeen = s.timerSeen) (hy : t.cycles = s.cycles) : MidInv t := by
  constructor
  · rw [hm]; exact h.memWf
  · rw [hm]; exact h.memInSpace
  · rw [hx]; exact h.zeroReg
  · rw [hf]; exact h.fcr31Reserved
  · rw [hc, hp]; exact h.cp0Reserved
  · rw [hl, hp]; exact h.lineAligned
  · rw [hz, hy]; exact h.timeBase
  · rw [ht, hy]; exact h.timerUpdate

/-- New coprocessor-0 registers with their reserved bits in order. -/
theorem MidInv.withCp0 {s t : State} (h : MidInv s) (hc : t.cp0.reservedOk s.params = true)
    (hm : t.mem = s.mem) (hx : t.x[0] = s.x[0]) (hf : t.fcr31 = s.fcr31) (hp : t.params = s.params)
    (hl : t.llLine = s.llLine) (hz : t.countZero = s.countZero) (ht : t.timerSeen = s.timerSeen)
    (hy : t.cycles = s.cycles) : MidInv t := by
  constructor
  · rw [hm]; exact h.memWf
  · rw [hm]; exact h.memInSpace
  · rw [hx]; exact h.zeroReg
  · rw [hf]; exact h.fcr31Reserved
  · rw [hp]; exact hc
  · rw [hl, hp]; exact h.lineAligned
  · rw [hz, hy]; exact h.timeBase
  · rw [ht, hy]; exact h.timerUpdate

theorem MidInv.setX {s : State} (h : MidInv s) (r : Reg) (v : DWord) : MidInv (s.setX r v) :=
  h.congr (by simp) (by simp) (by simp) (by simp) (by simp) (by simp) (by simp) (by simp) (by simp)

theorem MidInv.writeF32 {s : State} (h : MidInv s) (n : FReg) (v : Word) : MidInv (s.writeF32 n v) :=
  h.congr (by simp) (by simp) (by simp) (by simp) (by simp) (by simp) (by simp) (by simp) (by simp)

theorem MidInv.setF {s : State} (h : MidInv s) (f : Vector DWord 32) : MidInv { s with f := f } :=
  h.congr rfl rfl rfl rfl rfl rfl rfl rfl rfl

theorem MidInv.setHiLo {s : State} (h : MidInv s) (a b : DWord) : MidInv (s.setHiLo a b) :=
  h.congr rfl rfl rfl rfl rfl rfl rfl rfl rfl

theorem MidInv.writeTlb {s : State} (h : MidInv s) (i : Nat) (e : TlbEntry) : MidInv (s.writeTlb i e) :=
  h.congr (by simp) (by simp) (by simp) (by simp) (by simp) (by simp) (by simp) (by simp) (by simp)

theorem MidInv.takeBranch {s : State} (h : MidInv s) (a : DWord) : MidInv (s.takeBranch a) :=
  h.congr rfl rfl rfl rfl rfl rfl rfl rfl rfl

theorem MidInv.branchIf {s : State} (h : MidInv s) (c : Bool) (a : DWord) : MidInv (s.branchIf c a) :=
  h.congr (by simp) (by simp) (by simp) (by simp) (by simp) (by simp) (by simp) (by simp) (by simp)

theorem MidInv.branchLikely {s : State} (h : MidInv s) (c : Bool) (a : DWord) : MidInv (s.branchLikely c a) :=
  h.congr (by simp) (by simp) (by simp) (by simp) (by simp) (by simp) (by simp) (by simp) (by simp)

theorem MidInv.setFcr31 {s : State} (h : MidInv s) (w : Word) (hw : w &&& ~~~fcr31Mask = 0#32) :
    MidInv { s with fcr31 := w } :=
  ⟨h.memWf, h.memInSpace, h.zeroReg, hw, h.cp0Reserved, h.lineAligned, h.timeBase, h.timerUpdate⟩

/-- A bit of the stored Cause is kept or set among the stored bits only. -/
theorem causeWithCode_reserved (c : Word) (code : BitVec 5) (ce : BitVec 2)
    (h : c &&& ~~~causeStored = 0#32) : causeWithCode c code ce &&& ~~~causeStored = 0#32 := by
  unfold causeWithCode causeStored at *
  have h1 : (code.setWidth 32 <<< 2 : Word) &&& ~~~0xB000037C#32 = 0#32 := by revert code; decide
  have h2 : (ce.setWidth 32 <<< 28 : Word) &&& ~~~0xB000037C#32 = 0#32 := by revert ce; decide
  rw [or_and_distrib, or_and_distrib, h1, h2, and_swap, h]
  simp

theorem causeWithBd_reserved (c : Word) (bd : Bool) (h : c &&& ~~~causeStored = 0#32) :
    causeWithBd c bd &&& ~~~causeStored = 0#32 := by
  unfold causeWithBd causeStored at *
  have h1 : (if bd then 0x80000000#32 else 0#32 : Word) &&& ~~~0xB000037C#32 = 0#32 := by revert bd; decide
  rw [or_and_distrib, h1, and_swap, h]
  simp

/-- Registers that keep every field `reservedOk` reads but Cause. -/
theorem reservedOk_cause (p : Params) (c d : Cp0) (h : c.reservedOk p = true)
    (hc : d.cause &&& ~~~causeStored = 0#32)
    (he : d = { c with cause := d.cause, epc := d.epc, status := d.status, badVAddr := d.badVAddr }) :
    d.reservedOk p = true := by
  rw [he]
  simp only [Cp0.reservedOk, Bool.and_eq_true, decide_eq_true_eq] at h ⊢
  simp only [hc, h, and_self]

theorem MidInv.takeException {s : State} (h : MidInv s) (c : ExcCode) (ce : BitVec 2) (o : DWord) :
    MidInv (takeException c ce o s) := by
  refine h.withCp0 ?_ rfl rfl rfl rfl rfl rfl rfl rfl
  have hs := h.cp0Reserved
  have hc : s.cp0.cause &&& ~~~causeStored = 0#32 := by
    simp only [Cp0.reservedOk, Bool.and_eq_true, decide_eq_true_eq] at hs
    exact hs.1.1.1.1.1.2
  by_cases he : s.exl = true
  · rw [takeException_nested _ _ _ _ he]
    exact reservedOk_cause _ _ _ hs (causeWithCode_reserved _ _ _ hc) rfl
  · rw [takeException_first _ _ _ _ (by simpa using he)]
    exact reservedOk_cause _ _ _ hs (causeWithBd_reserved _ _ (causeWithCode_reserved _ _ _ hc)) rfl

theorem MidInv.raise {s : State} (h : MidInv s) (c : ExcCode) : MidInv (s.raise c) := h.takeException ..

theorem MidInv.raiseCpU {s : State} (h : MidInv s) (n : BitVec 2) : MidInv (s.raiseCpU n) := h.takeException ..

theorem MidInv.raiseAddressError {s : State} (h : MidInv s) (k : AccessKind) (va : DWord) :
    MidInv (s.raiseAddressError k va) := by
  have : MidInv { s with cp0 := { s.cp0 with badVAddr := va } } :=
    h.withCp0 (by simpa [Cp0.reservedOk] using h.cp0Reserved) rfl rfl rfl rfl rfl rfl rfl rfl
  exact this.raise _

theorem MidInv.tlbRegisters {s : State} (h : MidInv s) (va : DWord) : MidInv (s.tlbRegisters va) := by
  refine h.withCp0 ?_ rfl rfl rfl rfl rfl rfl rfl rfl
  have hs := h.cp0Reserved
  simp only [Cp0.reservedOk, Bool.and_eq_true, decide_eq_true_eq] at hs
  have h1 : ((va &&& 0xC00000FFFFFFE000#64) ||| s.asid.setWidth 64) &&& ~~~0xC00000FFFFFFE0FF#64 = 0#64 := by
    have ha : (s.asid.setWidth 64 : DWord) &&& ~~~0xC00000FFFFFFE0FF#64 = 0#64 := by
      generalize s.asid = a
      revert a; decide +kernel
    rw [or_and_distrib, ha, BitVec.and_assoc]
    simp
  have h2 : ((s.cp0.context &&& ~~~0x7FFFF0#64) ||| ((va.extractLsb' 13 19).setWidth 64 <<< 4)) &&& 0xF#64 =
      0#64 := by
    have hv : ((va.extractLsb' 13 19).setWidth 64 <<< 4 : DWord) &&& 0xF#64 = 0#64 := by
      apply BitVec.eq_of_getLsbD_eq
      intro i hi
      have : (0xF#64).getLsbD i = decide (i < 4) := by interval_cases i <;> rfl
      simp [this]
      omega
    rw [or_and_distrib, hv, and_swap, hs.1.1.1.1.1.1.1.1.1.2]
    simp
  have h3 : ((s.cp0.xContext &&& ~~~0x1FFFFFFF0#64) ||| ((va.extractLsb' 62 2).setWidth 64 <<< 31) |||
      ((va.extractLsb' 13 27).setWidth 64 <<< 4)) &&& 0xF#64 = 0#64 := by
    have hv : ((va.extractLsb' 13 27).setWidth 64 <<< 4 : DWord) &&& 0xF#64 = 0#64 := by
      apply BitVec.eq_of_getLsbD_eq
      intro i hi
      have : (0xF#64).getLsbD i = decide (i < 4) := by interval_cases i <;> rfl
      simp [this]
      omega
    have hr : ((va.extractLsb' 62 2).setWidth 64 <<< 31 : DWord) &&& 0xF#64 = 0#64 := by
      apply BitVec.eq_of_getLsbD_eq
      intro i hi
      have : (0xF#64).getLsbD i = decide (i < 4) := by interval_cases i <;> rfl
      simp [this]
      omega
    rw [or_and_distrib, or_and_distrib, hv, hr, and_swap, hs.1.2]
    simp
  simp only [Cp0.reservedOk, State.tlbRegisters, Bool.and_eq_true]
  simp only [h1, h2, h3, hs, and_self, decide_true]

theorem MidInv.raiseTlb {s : State} (h : MidInv s) (m : TlbMiss) (k : AccessKind) (va : DWord) :
    MidInv (s.raiseTlb m k va) := (h.tlbRegisters va).takeException ..

/-- An exception an access raises keeps the invariant. -/
theorem MidInv.accessRaised {s t : State} (h : MidInv s) (k : AccessKind) (va : DWord)
    (ht : t = s.raise .watch ∨ t = s.raiseAddressError k va ∨ ∃ m, t = s.raiseTlb m k va) : MidInv t := by
  rcases ht with rfl | rfl | ⟨m, rfl⟩
  · exact h.raise _
  · exact h.raiseAddressError _ _
  · exact h.raiseTlb _ _ _

theorem MidInv.writeCells {s : State} (h : MidInv s) (cs : List Host.Cell) (hc : ∀ c ∈ cs, c.1 < 2 ^ 36) :
    MidInv (s.writeCells cs) :=
  ⟨writeCells_wf _ _ h.memWf, writeCells_inSpace _ _ h.memInSpace hc, h.zeroReg, h.fcr31Reserved, h.cp0Reserved,
    h.lineAligned, h.timeBase, h.timerUpdate⟩

theorem MidInv.installObserver {s : State} (h : MidInv s) (pa : PAddr) : MidInv (s.installObserver pa) := by
  refine ⟨h.memWf, h.memInSpace, h.zeroReg, h.fcr31Reserved, ?_, ?_, h.timeBase, h.timerUpdate⟩
  · exact h.cp0Reserved
  · simp only [State.installObserver, BitVec.and_assoc]
    simp

theorem MidInv.returnFromException {s : State} (h : MidInv s) : MidInv (returnFromException s) := by
  unfold Machine.returnFromException
  split
  · exact h.withCp0 h.cp0Reserved rfl rfl rfl rfl rfl rfl rfl rfl
  · exact h.withCp0 h.cp0Reserved rfl rfl rfl rfl rfl rfl rfl rfl

theorem MidInv.updateTimer {s : State} (h : MidInv s) : MidInv (updateTimer s) :=
  ⟨h.memWf, h.memInSpace, h.zeroReg, h.fcr31Reserved, h.cp0Reserved, h.lineAligned, h.timeBase, le_refl _⟩

theorem MidInv.endStep {s : State} (h : MidInv s) (o : Option Instr) : MidInv (endStep o s) := by
  have e : ∀ {a b : Nat}, a ≤ b → a ≤ b + (1 + Config.extraCycles o) := fun h => Nat.le_trans h (Nat.le_add_right ..)
  constructor
  · simpa using h.memWf
  · simpa using h.memInSpace
  · simpa using h.zeroReg
  · simpa using h.fcr31Reserved
  · simpa using h.cp0Reserved
  · simpa using h.lineAligned
  · simpa using e h.timeBase
  · simpa using e h.timerUpdate

theorem MidInv.forceX0 {s : State} (h : MidInv s) : MidInv s.forceX0 :=
  h.congr rfl (by rw [forceX0_x_zero, h.zeroReg]) rfl rfl rfl rfl rfl rfl rfl

/-- A masked write keeps a clear bit clear outside the mask. -/
theorem masked64_reserved (m old v : DWord) (h : old &&& ~~~m = 0#64) : masked64 m old v &&& ~~~m = 0#64 := by
  rw [masked64, or_and_distrib, and_mask_not, BitVec.and_assoc, BitVec.and_self, h]
  simp

theorem masked32_reserved (m old v : Word) (h : old &&& ~~~m = 0#32) : masked32 m old v &&& ~~~m = 0#32 := by
  rw [masked32, or_and_distrib, and_mask_not, BitVec.and_assoc, BitVec.and_self, h]
  simp

end Sys2Proof.Machine
end

