-- ==== Sys2Proof/Laws/Keeps.lean ====
section
/-! SUPPORT. The templates of the meanings keep the invariant: for each, every next state it gives meets `MidInv`
when the state before does. -/

set_option Elab.async false

namespace Sys2Proof.Machine

/-- Every next state a result gives meets the invariant. -/
def Keeps (r : Result) : Prop := ∀ t, r = .next t → MidInv t

theorem Keeps.next {t : State} (h : MidInv t) : Keeps (.next t) := by
  intro u hu; simp only [Host.Outcome.next.injEq] at hu; exact hu ▸ h

theorem Keeps.refused (q : Refusal) : Keeps (.refused q) := by intro u hu; simp at hu

theorem Keeps.guardOps64 {s : State} {r : Result} (h : MidInv s) (hr : Keeps r) : Keeps (guardOps64 s r) := by
  unfold Machine.guardOps64; split
  · exact hr
  · exact .next (h.raise _)

theorem Keeps.guardCp0 {s : State} {r : Result} (h : MidInv s) (hr : Keeps r) : Keeps (guardCp0 s r) := by
  unfold Machine.guardCp0; split
  · exact hr
  · exact .next (h.raiseCpU _)

theorem Keeps.guardCp1 {s : State} {r : Result} (h : MidInv s) (hr : Keeps r) : Keeps (guardCp1 s r) := by
  unfold Machine.guardCp1; split
  · exact hr
  · exact .next (h.raiseCpU _)

theorem Keeps.cop2 {s : State} (h : MidInv s) : Keeps (cop2Stub s) := by
  unfold Machine.cop2Stub; split
  · exact .refused _
  · exact .next (h.raiseCpU _)

theorem Keeps.trapIf {s : State} (h : MidInv s) (c : Bool) : Keeps (trapIf s c) := by
  unfold Machine.trapIf; split
  · exact .next (h.raise _)
  · exact .next h

theorem Keeps.overflowOr {s : State} (h : MidInv s) (c : Bool) (r : Reg) (v : DWord) : Keeps (overflowOr s c r v) := by
  unfold Machine.overflowOr; split
  · exact .next (h.raise _)
  · exact .next (h.setX _ _)

theorem Keeps.ite {c : Prop} [Decidable c] {a b : State} (ha : MidInv a) (hb : MidInv b) :
    Keeps (.next (if c then a else b)) := by
  split
  · exact .next ha
  · exact .next hb

theorem Keeps.loadThen {s : State} (h : MidInv s) (va : DWord) (n : Nat) (k : PAddr × DWord → Result)
    (hk : ∀ r, Keeps (k r)) : Keeps ((load s va n).andThen k) := by
  intro t ht
  rcases andThen_next _ _ _ ht with ⟨v, _, hv⟩ | hr
  · exact hk v _ hv
  · exact h.accessRaised _ _ (load_raised _ _ _ _ hr)

theorem Keeps.storeThen {s : State} (h : MidInv s) (va : DWord) (n : Nat) (v : DWord) (k : State → Result)
    (hn : n = 1 ∨ n = 2 ∨ n = 4 ∨ n = 8) (hk : ∀ r, MidInv r → Keeps (k r)) : Keeps ((store s va n v).andThen k) := by
  intro t ht
  rcases andThen_next _ _ _ ht with ⟨u, hu, hv⟩ | hr
  · obtain ⟨pa, hp, rfl⟩ := store_done _ _ _ _ _ hu
    exact hk _ (h.writeCells _ (storeCells_inSpace _ _ _ _ _ hn hp)) _ hv
  · exact h.accessRaised _ _ (store_raised _ _ _ _ _ hr)

theorem partAddr_done (s : State) (k : AccessKind) (va : DWord) (n : Nat) (a : Nat × Nat)
    (hn : n = 4 ∨ n = 8) (h : partAddr s k va n = .done a) : a.1 + n ≤ 2 ^ 36 ∧ a.1 % n = 0 := by
  unfold partAddr at h
  split at h
  · simp only [Access.done.injEq] at h
    rw [← h]
    simp only
    rename_i pa _
    have := (if s.reverseEndian then pa ^^^ 7#36 else pa).isLt
    generalize (if s.reverseEndian then pa ^^^ 7#36 else pa) = e at *
    rcases hn with rfl | rfl <;> omega
  · simp at h
  · simp at h

theorem Keeps.partThen {s : State} (h : MidInv s) (k : AccessKind) (va : DWord) (n : Nat) (f : Nat × Nat → Result)
    (hn : n = 4 ∨ n = 8) (hk : ∀ a, a.1 + n ≤ 2 ^ 36 → Keeps (f a)) : Keeps ((partAddr s k va n).andThen f) := by
  intro t ht
  rcases andThen_next _ _ _ ht with ⟨v, hd, hv⟩ | hr
  · exact hk v (partAddr_done _ _ _ _ _ hn hd).1 _ hv
  · exact h.accessRaised _ _ (partAddr_raised _ _ _ _ _ hr)

theorem masked_inSpace (be : Bool) (pa n : Nat) (v m : DWord) (h : pa + n ≤ 2 ^ 36) :
    ∀ c ∈ maskedCells be pa n v m, c.1 < 2 ^ 36 := by
  intro c hc
  have := maskedCells_addr _ _ _ _ _ _ hc
  omega

theorem Keeps.loadReg {s : State} (h : MidInv s) (rt va n ext) : Keeps (loadReg s rt va n ext) :=
  Keeps.loadThen h _ _ _ fun _ => .next (h.setX _ _)

theorem Keeps.storeReg {s : State} (h : MidInv s) (rt va n) (hn : n = 1 ∨ n = 2 ∨ n = 4 ∨ n = 8) :
    Keeps (storeReg s rt va n) := Keeps.storeThen h _ _ _ _ hn fun _ hr => .next hr

theorem Keeps.loadLeft {s : State} (h : MidInv s) (rt va n ext) (hn : n = 4 ∨ n = 8) : Keeps (loadLeft s rt va n ext) :=
  Keeps.partThen h _ _ _ _ hn fun _ _ => .next (h.setX _ _)

theorem Keeps.loadRight {s : State} (h : MidInv s) (rt va n ext) (hn : n = 4 ∨ n = 8) : Keeps (loadRight s rt va n ext) :=
  Keeps.partThen h _ _ _ _ hn fun _ _ => .next (h.setX _ _)

theorem Keeps.storeLeft {s : State} (h : MidInv s) (rt va n) (hn : n = 4 ∨ n = 8) : Keeps (storeLeft s rt va n) :=
  Keeps.partThen h _ _ _ _ hn fun _ ha => .next (h.writeCells _ (masked_inSpace _ _ _ _ _ ha))

theorem Keeps.storeRight {s : State} (h : MidInv s) (rt va n) (hn : n = 4 ∨ n = 8) : Keeps (storeRight s rt va n) :=
  Keeps.partThen h _ _ _ _ hn fun _ ha => .next (h.writeCells _ (masked_inSpace _ _ _ _ _ ha))

theorem Keeps.loadLinked {s : State} (h : MidInv s) (rt va n ext) : Keeps (loadLinked s rt va n ext) :=
  Keeps.loadThen h _ _ _ fun _ => .next ((h.setX _ _).installObserver _)

theorem Keeps.storeConditional {s : State} (h : MidInv s) (rt va n) (hn : n = 1 ∨ n = 2 ∨ n = 4 ∨ n = 8) :
    Keeps (storeConditional s rt va n) := by
  unfold Machine.storeConditional
  split
  · have h' : MidInv { s with llbit := false } := h.congr rfl rfl rfl rfl rfl rfl rfl rfl rfl
    exact Keeps.storeThen h' _ _ _ _ hn fun _ hr => .next (hr.setX _ _)
  · exact .next (h.setX _ _)

theorem Keeps.withF64 {s : State} (n : FReg) (k : DWord → Result) (hk : ∀ v, Keeps (k v)) : Keeps (withF64 s n k) := by
  intro t ht; exact hk _ _ (withF64_next _ _ _ _ ht)

theorem Keeps.commitF64 {s : State} (h : MidInv s) (n : FReg) (v : DWord) : Keeps (commitF64 s n v) := by
  intro t ht; rw [commitF64_next _ _ _ _ ht]; exact h.setF _

theorem Keeps.fpFinish {s : State} (h : MidInv s) (fl : FpFlags) (commit : State → Result)
    (hc : ∀ t, MidInv t → Keeps (commit t)) : Keeps (fpFinish s fl commit) := by
  have h1 : fcrSetCause s.fcr31 fl &&& ~~~fcr31Mask = 0#32 := by
    have := h.fcr31Reserved
    have e : (fl.setWidth 32 <<< 12 : Word) &&& ~~~fcr31Mask = 0#32 := by revert fl; decide
    rw [fcrSetCause, or_and_distrib, e, and_swap, this]; simp
  have h2 : fcrOrFlag (fcrSetCause s.fcr31 fl) fl &&& ~~~fcr31Mask = 0#32 := by
    have e : (fl.setWidth 32 <<< 2 : Word) &&& ~~~fcr31Mask = 0#32 := by clear h1; revert fl; decide
    rw [fcrOrFlag, or_and_distrib, e, h1]; simp
  intro t ht
  rcases fpFinish_next _ _ _ _ ht with ⟨_, rfl⟩ | ⟨_, hc'⟩
  · exact (h.setFcr31 _ h1).raise _
  · exact hc _ (h.setFcr31 _ h2) _ hc'

theorem Keeps.commitS {t : State} (h : MidInv t) (fd b) : Keeps (commitS fd b t) := .next (h.writeF32 _ _)

theorem Keeps.commitD {t : State} (h : MidInv t) (fd b) : Keeps (commitD fd b t) := .commitF64 h _ _

theorem Keeps.commitC {t : State} (h : MidInv t) (c) : Keeps (commitC c t) := by
  refine .next (h.setFcr31 _ ?_)
  have e : (if c then 0x00800000#32 else 0#32 : Word) &&& ~~~fcr31Mask = 0#32 := by revert c; decide
  rw [fcrSetC, or_and_distrib, e, and_swap, h.fcr31Reserved]; simp

theorem Keeps.binaryS {s : State} (h : MidInv s) (op fd fs ft) : Keeps (binaryS op fd fs ft s) :=
  .guardCp1 h (.fpFinish h _ _ fun _ ht => .commitS ht _ _)

theorem Keeps.binaryD {s : State} (h : MidInv s) (op fd fs ft) : Keeps (binaryD op fd fs ft s) :=
  .guardCp1 h (.withF64 _ _ fun _ => .withF64 _ _ fun _ => .fpFinish h _ _ fun _ ht => .commitD ht _ _)

theorem Keeps.unarySS {s : State} (h : MidInv s) (op fd fs) : Keeps (unarySS op fd fs s) :=
  .guardCp1 h (.fpFinish h _ _ fun _ ht => .commitS ht _ _)

theorem Keeps.unarySD {s : State} (h : MidInv s) (op fd fs) : Keeps (unarySD op fd fs s) :=
  .guardCp1 h (.fpFinish h _ _ fun _ ht => .commitD ht _ _)

theorem Keeps.unaryDS {s : State} (h : MidInv s) (op fd fs) : Keeps (unaryDS op fd fs s) :=
  .guardCp1 h (.withF64 _ _ fun _ => .fpFinish h _ _ fun _ ht => .commitS ht _ _)

theorem Keeps.unaryDD {s : State} (h : MidInv s) (op fd fs) : Keeps (unaryDD op fd fs s) :=
  .guardCp1 h (.withF64 _ _ fun _ => .fpFinish h _ _ fun _ ht => .commitD ht _ _)

theorem Keeps.compareS {s : State} (h : MidInv s) (c fs ft) : Keeps (compareS c fs ft s) :=
  .guardCp1 h (.fpFinish h _ _ fun _ ht => .commitC ht _)

theorem Keeps.compareD {s : State} (h : MidInv s) (c fs ft) : Keeps (compareD c fs ft s) :=
  .guardCp1 h (.withF64 _ _ fun _ => .withF64 _ _ fun _ => .fpFinish h _ _ fun _ ht => .commitC ht _)

theorem Cp0.write_reserved (p : Params) (c : Cp0) (n : CReg) (v : DWord) (h : c.reservedOk p = true) :
    (c.write n v).reservedOk p = true := by
  simp only [Cp0.reservedOk, Bool.and_eq_true, decide_eq_true_eq] at h
  obtain ⟨⟨⟨⟨⟨⟨⟨⟨⟨⟨⟨⟨h1, h2⟩, h3⟩, h4⟩, h5⟩, h6⟩, h7⟩, h8⟩, h9⟩, h10⟩, h11⟩, h12⟩, h13⟩ := h
  unfold Cp0.write
  simp only
  split <;> simp only [Cp0.reservedOk, Bool.and_eq_true, decide_eq_true_eq] <;>
    refine ⟨⟨⟨⟨⟨⟨⟨⟨⟨⟨⟨⟨?_, ?_⟩, ?_⟩, ?_⟩, ?_⟩, ?_⟩, ?_⟩, ?_⟩, ?_⟩, ?_⟩, ?_⟩, ?_⟩, ?_⟩ <;> try assumption
  · exact masked32_reserved _ _ _ h1
  · exact masked64_reserved _ _ _ h2
  · exact masked64_reserved _ _ _ h3
  · rw [masked64, or_and_distrib, and_swap, h4, BitVec.and_assoc]; simp
  · exact masked32_reserved _ _ _ h5
  · exact masked32_reserved _ _ _ h6
  · exact masked64_reserved _ _ _ h7
  · rw [masked32, or_and_distrib, and_swap, h8, BitVec.and_assoc]; simp [causeStored]
  · rw [masked32, or_and_distrib, and_mask_not, BitVec.and_assoc, BitVec.and_self, h9]; simp
  · rw [masked32, or_and_distrib, and_swap, h10, BitVec.and_assoc]; simp
  · exact masked32_reserved _ _ _ h11
  · rw [masked64, or_and_distrib, and_swap, h12, BitVec.and_assoc]; simp
  · exact masked32_reserved _ _ _ h13

theorem MidInv.wrCp0 {s : State} (h : MidInv s) (n : CReg) (v : DWord) : MidInv (s.wrCp0 n v) := by
  unfold State.wrCp0
  split
  · exact ⟨h.memWf, h.memInSpace, h.zeroReg, h.fcr31Reserved, h.cp0Reserved, h.lineAligned, le_refl _, h.timerUpdate⟩
  · split
    · exact ⟨h.memWf, h.memInSpace, h.zeroReg, h.fcr31Reserved, h.cp0Reserved, h.lineAligned, h.timeBase, h.timerUpdate⟩
    · exact h.withCp0 (Cp0.write_reserved _ _ _ _ h.cp0Reserved) rfl rfl rfl rfl rfl rfl rfl rfl

theorem Cp0.loadEntry_reserved (p : Params) (c : Cp0) (e : TlbEntry) (h : c.reservedOk p = true) :
    (c.loadEntry e).reservedOk p = true := by
  simp only [Cp0.reservedOk, Bool.and_eq_true, decide_eq_true_eq] at h
  obtain ⟨⟨⟨⟨⟨⟨⟨⟨⟨⟨⟨⟨h1, h2⟩, h3⟩, h4⟩, h5⟩, h6⟩, h7⟩, h8⟩, h9⟩, h10⟩, h11⟩, h12⟩, h13⟩ := h
  have lo : ∀ (l : TlbLo) (g : Bool), regFromLo l g &&& ~~~0x3FFFFFFF#64 = 0#64 := by
    intro l g
    apply BitVec.eq_of_getLsbD_eq
    intro i hi
    have : (0x3FFFFFFF#64).getLsbD i = decide (i < 30) := by interval_cases i <;> rfl
    simp only [regFromLo, BitVec.getLsbD_and, BitVec.getLsbD_not, this, BitVec.getLsbD_setWidth]
    by_cases hb : i < 30
    · simp [hb]
    · simp only [BitVec.getLsbD_zero]
      rw [BitVec.getLsbD_of_ge _ _ (by omega)]
      simp
  have pm : (e.mask.setWidth 32 <<< 13 : Word) &&& ~~~0x01FFE000#32 = 0#32 := by
    apply BitVec.eq_of_getLsbD_eq
    intro i hi
    have : (0x01FFE000#32).getLsbD i = (decide (13 ≤ i) && decide (i < 25)) := by interval_cases i <;> rfl
    simp only [BitVec.getLsbD_and, BitVec.getLsbD_not, this, BitVec.getLsbD_shiftLeft, BitVec.getLsbD_setWidth]
    by_cases hb : i < 13
    · simp [hb]
    · by_cases hc : i < 25
      · have : 13 ≤ i := by omega
        simp [this, hc]
      · rw [BitVec.getLsbD_of_ge e.mask _ (by omega)]
        simp
  have eh : hiFromEntry e &&& ~~~0xC00000FFFFFFE0FF#64 = 0#64 := by
    apply BitVec.eq_of_getLsbD_eq
    intro i hi
    simp only [hiFromEntry, BitVec.getLsbD_and, BitVec.getLsbD_not, BitVec.getLsbD_append]
    interval_cases i <;> simp
  simp only [Cp0.reservedOk, Cp0.loadEntry, Bool.and_eq_true]
  simp only [h1, lo, h4, pm, h6, eh, h8, h9, h10, h11, h12, h13, and_self, decide_true]

/-! ## The boundary -/

theorem applyReset_x_zero (s : State) : (applyReset s).x[0] = 0#64 := Vector.getElem_set_self ..

theorem MidInv.applyReset {s : State} (h : MidInv s) : MidInv (applyReset s) := by
  refine ⟨h.memWf, h.memInSpace, applyReset_x_zero s, and_mask_not _ _, ?_, h.lineAligned, le_refl _, le_refl _⟩
  show (Cp0.afterReset s).reservedOk s.params = true
  simp only [Cp0.afterReset, Cp0.reservedOk, Bool.and_eq_true]
  simp only [BitVec.and_assoc, decide_true]
  simp

theorem MidInv.applyInput {s : State} (h : MidInv s) (i : HostInput) : MidInv (applyInput s i) := by
  cases i with
  | irq l => exact h.congr rfl rfl rfl rfl rfl rfl rfl rfl rfl
  | elapse n =>
    exact ⟨h.memWf, h.memInSpace, h.zeroReg, h.fcr31Reserved, h.cp0Reserved, h.lineAligned,
      Nat.le_trans h.timeBase (Nat.le_add_right ..), Nat.le_trans h.timerUpdate (Nat.le_add_right ..)⟩
  | busWrite pa v =>
    refine h.writeCells _ fun c hc => ?_
    rw [List.mem_singleton.1 hc]
    exact pa.isLt
  | reset => exact h.applyReset

theorem MidInv.takeInputs {s : State} (h : MidInv s) : MidInv (takeInputs s) := by
  have fold : ∀ (l : List HostInput) (u : State), MidInv u → MidInv (l.foldl Machine.applyInput u) := by
    intro l
    induction l with
    | nil => intro u hu; exact hu
    | cons a rest ih => intro u hu; exact ih _ (hu.applyInput a)
  unfold Machine.takeInputs
  split
  · exact h
  · exact fold _ _ (h.congr rfl rfl rfl rfl rfl rfl rfl rfl rfl)

theorem MidInv.beginStep {s : State} (h : MidInv s) : MidInv (beginStep s) := h.takeInputs.updateTimer

/-- A reserved word keeps the invariant. -/
theorem Keeps.execReserved {s : State} (h : MidInv s) (k : ReservedKind) : Keeps (execReserved k s) := by
  cases k
  · exact .next (h.raise _)
  · exact .guardCp0 h (.next (h.raise _))
  · refine .guardCp1 h (.next ((h.setFcr31 _ ?_).raise _))
    rw [fcrSetCauseE, or_and_distrib, and_swap, h.fcr31Reserved]
    decide

end Sys2Proof.Machine
end

