-- ==== Sys2Proof/Laws/PerInstr.lean ====
section
/-! SUPPORT. The per-instruction family RoundTrip: decoding the encoding of a well-formed instruction gives it
back, one lemma per constructor. -/

set_option Elab.async false

namespace Sys2Proof.Laws

/-- Decoding `encode i` gives `i` back. -/
def RoundTrip.Statement (i : Instr) : Prop := WellFormed i = true → decode (encode i) = .instr i

theorem RoundTrip.add (rd : Reg) (rs : Reg) (rt : Reg) : RoundTrip.Statement (.add rd rs rt) := by
  intro _
  show decode (packR 0#6 (regBits rs) (regBits rt) (regBits rd) 0#5 0x20#6) = _
  unfold decode
  rw [opcodeF_packR]
  show decodeSpecial _ = _
  unfold decodeSpecial
  rw [functF_packR]
  show Decoded.instr (.add (rdF _) (rsF _) (rtF _)) = _
  simp

theorem RoundTrip.addu (rd : Reg) (rs : Reg) (rt : Reg) : RoundTrip.Statement (.addu rd rs rt) := by
  intro _
  show decode (packR 0#6 (regBits rs) (regBits rt) (regBits rd) 0#5 0x21#6) = _
  unfold decode
  rw [opcodeF_packR]
  show decodeSpecial _ = _
  unfold decodeSpecial
  rw [functF_packR]
  show Decoded.instr (.addu (rdF _) (rsF _) (rtF _)) = _
  simp

theorem RoundTrip.sub (rd : Reg) (rs : Reg) (rt : Reg) : RoundTrip.Statement (.sub rd rs rt) := by
  intro _
  show decode (packR 0#6 (regBits rs) (regBits rt) (regBits rd) 0#5 0x22#6) = _
  unfold decode
  rw [opcodeF_packR]
  show decodeSpecial _ = _
  unfold decodeSpecial
  rw [functF_packR]
  show Decoded.instr (.sub (rdF _) (rsF _) (rtF _)) = _
  simp

theorem RoundTrip.subu (rd : Reg) (rs : Reg) (rt : Reg) : RoundTrip.Statement (.subu rd rs rt) := by
  intro _
  show decode (packR 0#6 (regBits rs) (regBits rt) (regBits rd) 0#5 0x23#6) = _
  unfold decode
  rw [opcodeF_packR]
  show decodeSpecial _ = _
  unfold decodeSpecial
  rw [functF_packR]
  show Decoded.instr (.subu (rdF _) (rsF _) (rtF _)) = _
  simp

theorem RoundTrip.dadd (rd : Reg) (rs : Reg) (rt : Reg) : RoundTrip.Statement (.dadd rd rs rt) := by
  intro _
  show decode (packR 0#6 (regBits rs) (regBits rt) (regBits rd) 0#5 0x2C#6) = _
  unfold decode
  rw [opcodeF_packR]
  show decodeSpecial _ = _
  unfold decodeSpecial
  rw [functF_packR]
  show Decoded.instr (.dadd (rdF _) (rsF _) (rtF _)) = _
  simp

theorem RoundTrip.daddu (rd : Reg) (rs : Reg) (rt : Reg) : RoundTrip.Statement (.daddu rd rs rt) := by
  intro _
  show decode (packR 0#6 (regBits rs) (regBits rt) (regBits rd) 0#5 0x2D#6) = _
  unfold decode
  rw [opcodeF_packR]
  show decodeSpecial _ = _
  unfold decodeSpecial
  rw [functF_packR]
  show Decoded.instr (.daddu (rdF _) (rsF _) (rtF _)) = _
  simp

theorem RoundTrip.dsub (rd : Reg) (rs : Reg) (rt : Reg) : RoundTrip.Statement (.dsub rd rs rt) := by
  intro _
  show decode (packR 0#6 (regBits rs) (regBits rt) (regBits rd) 0#5 0x2E#6) = _
  unfold decode
  rw [opcodeF_packR]
  show decodeSpecial _ = _
  unfold decodeSpecial
  rw [functF_packR]
  show Decoded.instr (.dsub (rdF _) (rsF _) (rtF _)) = _
  simp

theorem RoundTrip.dsubu (rd : Reg) (rs : Reg) (rt : Reg) : RoundTrip.Statement (.dsubu rd rs rt) := by
  intro _
  show decode (packR 0#6 (regBits rs) (regBits rt) (regBits rd) 0#5 0x2F#6) = _
  unfold decode
  rw [opcodeF_packR]
  show decodeSpecial _ = _
  unfold decodeSpecial
  rw [functF_packR]
  show Decoded.instr (.dsubu (rdF _) (rsF _) (rtF _)) = _
  simp

theorem RoundTrip.and (rd : Reg) (rs : Reg) (rt : Reg) : RoundTrip.Statement (.and rd rs rt) := by
  intro _
  show decode (packR 0#6 (regBits rs) (regBits rt) (regBits rd) 0#5 0x24#6) = _
  unfold decode
  rw [opcodeF_packR]
  show decodeSpecial _ = _
  unfold decodeSpecial
  rw [functF_packR]
  show Decoded.instr (.and (rdF _) (rsF _) (rtF _)) = _
  simp

theorem RoundTrip.or (rd : Reg) (rs : Reg) (rt : Reg) : RoundTrip.Statement (.or rd rs rt) := by
  intro _
  show decode (packR 0#6 (regBits rs) (regBits rt) (regBits rd) 0#5 0x25#6) = _
  unfold decode
  rw [opcodeF_packR]
  show decodeSpecial _ = _
  unfold decodeSpecial
  rw [functF_packR]
  show Decoded.instr (.or (rdF _) (rsF _) (rtF _)) = _
  simp

theorem RoundTrip.xor (rd : Reg) (rs : Reg) (rt : Reg) : RoundTrip.Statement (.xor rd rs rt) := by
  intro _
  show decode (packR 0#6 (regBits rs) (regBits rt) (regBits rd) 0#5 0x26#6) = _
  unfold decode
  rw [opcodeF_packR]
  show decodeSpecial _ = _
  unfold decodeSpecial
  rw [functF_packR]
  show Decoded.instr (.xor (rdF _) (rsF _) (rtF _)) = _
  simp

theorem RoundTrip.nor (rd : Reg) (rs : Reg) (rt : Reg) : RoundTrip.Statement (.nor rd rs rt) := by
  intro _
  show decode (packR 0#6 (regBits rs) (regBits rt) (regBits rd) 0#5 0x27#6) = _
  unfold decode
  rw [opcodeF_packR]
  show decodeSpecial _ = _
  unfold decodeSpecial
  rw [functF_packR]
  show Decoded.instr (.nor (rdF _) (rsF _) (rtF _)) = _
  simp

theorem RoundTrip.slt (rd : Reg) (rs : Reg) (rt : Reg) : RoundTrip.Statement (.slt rd rs rt) := by
  intro _
  show decode (packR 0#6 (regBits rs) (regBits rt) (regBits rd) 0#5 0x2A#6) = _
  unfold decode
  rw [opcodeF_packR]
  show decodeSpecial _ = _
  unfold decodeSpecial
  rw [functF_packR]
  show Decoded.instr (.slt (rdF _) (rsF _) (rtF _)) = _
  simp

theorem RoundTrip.sltu (rd : Reg) (rs : Reg) (rt : Reg) : RoundTrip.Statement (.sltu rd rs rt) := by
  intro _
  show decode (packR 0#6 (regBits rs) (regBits rt) (regBits rd) 0#5 0x2B#6) = _
  unfold decode
  rw [opcodeF_packR]
  show decodeSpecial _ = _
  unfold decodeSpecial
  rw [functF_packR]
  show Decoded.instr (.sltu (rdF _) (rsF _) (rtF _)) = _
  simp

theorem RoundTrip.addi (rt : Reg) (rs : Reg) (imm : BitVec 16) : RoundTrip.Statement (.addi rt rs imm) := by
  intro _
  show decode (packI 0x08#6 (regBits rs) (regBits rt) imm) = _
  unfold decode
  rw [opcodeF_packI]
  show Decoded.instr (.addi (rtF _) (rsF _) (immF _)) = _
  simp

theorem RoundTrip.addiu (rt : Reg) (rs : Reg) (imm : BitVec 16) : RoundTrip.Statement (.addiu rt rs imm) := by
  intro _
  show decode (packI 0x09#6 (regBits rs) (regBits rt) imm) = _
  unfold decode
  rw [opcodeF_packI]
  show Decoded.instr (.addiu (rtF _) (rsF _) (immF _)) = _
  simp

theorem RoundTrip.daddi (rt : Reg) (rs : Reg) (imm : BitVec 16) : RoundTrip.Statement (.daddi rt rs imm) := by
  intro _
  show decode (packI 0x18#6 (regBits rs) (regBits rt) imm) = _
  unfold decode
  rw [opcodeF_packI]
  show Decoded.instr (.daddi (rtF _) (rsF _) (immF _)) = _
  simp

theorem RoundTrip.daddiu (rt : Reg) (rs : Reg) (imm : BitVec 16) : RoundTrip.Statement (.daddiu rt rs imm) := by
  intro _
  show decode (packI 0x19#6 (regBits rs) (regBits rt) imm) = _
  unfold decode
  rw [opcodeF_packI]
  show Decoded.instr (.daddiu (rtF _) (rsF _) (immF _)) = _
  simp

theorem RoundTrip.slti (rt : Reg) (rs : Reg) (imm : BitVec 16) : RoundTrip.Statement (.slti rt rs imm) := by
  intro _
  show decode (packI 0x0A#6 (regBits rs) (regBits rt) imm) = _
  unfold decode
  rw [opcodeF_packI]
  show Decoded.instr (.slti (rtF _) (rsF _) (immF _)) = _
  simp

theorem RoundTrip.sltiu (rt : Reg) (rs : Reg) (imm : BitVec 16) : RoundTrip.Statement (.sltiu rt rs imm) := by
  intro _
  show decode (packI 0x0B#6 (regBits rs) (regBits rt) imm) = _
  unfold decode
  rw [opcodeF_packI]
  show Decoded.instr (.sltiu (rtF _) (rsF _) (immF _)) = _
  simp

theorem RoundTrip.andi (rt : Reg) (rs : Reg) (imm : BitVec 16) : RoundTrip.Statement (.andi rt rs imm) := by
  intro _
  show decode (packI 0x0C#6 (regBits rs) (regBits rt) imm) = _
  unfold decode
  rw [opcodeF_packI]
  show Decoded.instr (.andi (rtF _) (rsF _) (immF _)) = _
  simp

theorem RoundTrip.ori (rt : Reg) (rs : Reg) (imm : BitVec 16) : RoundTrip.Statement (.ori rt rs imm) := by
  intro _
  show decode (packI 0x0D#6 (regBits rs) (regBits rt) imm) = _
  unfold decode
  rw [opcodeF_packI]
  show Decoded.instr (.ori (rtF _) (rsF _) (immF _)) = _
  simp

theorem RoundTrip.xori (rt : Reg) (rs : Reg) (imm : BitVec 16) : RoundTrip.Statement (.xori rt rs imm) := by
  intro _
  show decode (packI 0x0E#6 (regBits rs) (regBits rt) imm) = _
  unfold decode
  rw [opcodeF_packI]
  show Decoded.instr (.xori (rtF _) (rsF _) (immF _)) = _
  simp

theorem RoundTrip.lui (rt : Reg) (imm : BitVec 16) : RoundTrip.Statement (.lui rt imm) := by
  intro _
  show decode (packI 0x0F#6 0#5 (regBits rt) imm) = _
  unfold decode
  rw [opcodeF_packI]
  show Decoded.instr (.lui (rtF _) (immF _)) = _
  simp

theorem RoundTrip.sll (rd : Reg) (rt : Reg) (sa : Nat) : RoundTrip.Statement (.sll rd rt sa) := by
  intro h
  have h := of_decide_eq_true h
  show decode (packR 0#6 0#5 (regBits rt) (regBits rd) (BitVec.ofNat 5 sa) 0x00#6) = _
  unfold decode
  rw [opcodeF_packR]
  show decodeSpecial _ = _
  unfold decodeSpecial
  rw [functF_packR]
  show Decoded.instr (.sll (rdF _) (rtF _) (saF _)) = _
  simp [Nat.mod_eq_of_lt h]

theorem RoundTrip.srl (rd : Reg) (rt : Reg) (sa : Nat) : RoundTrip.Statement (.srl rd rt sa) := by
  intro h
  have h := of_decide_eq_true h
  show decode (packR 0#6 0#5 (regBits rt) (regBits rd) (BitVec.ofNat 5 sa) 0x02#6) = _
  unfold decode
  rw [opcodeF_packR]
  show decodeSpecial _ = _
  unfold decodeSpecial
  rw [functF_packR]
  show Decoded.instr (.srl (rdF _) (rtF _) (saF _)) = _
  simp [Nat.mod_eq_of_lt h]

theorem RoundTrip.sra (rd : Reg) (rt : Reg) (sa : Nat) : RoundTrip.Statement (.sra rd rt sa) := by
  intro h
  have h := of_decide_eq_true h
  show decode (packR 0#6 0#5 (regBits rt) (regBits rd) (BitVec.ofNat 5 sa) 0x03#6) = _
  unfold decode
  rw [opcodeF_packR]
  show decodeSpecial _ = _
  unfold decodeSpecial
  rw [functF_packR]
  show Decoded.instr (.sra (rdF _) (rtF _) (saF _)) = _
  simp [Nat.mod_eq_of_lt h]

theorem RoundTrip.sllv (rd : Reg) (rt : Reg) (rs : Reg) : RoundTrip.Statement (.sllv rd rt rs) := by
  intro _
  show decode (packR 0#6 (regBits rs) (regBits rt) (regBits rd) 0#5 0x04#6) = _
  unfold decode
  rw [opcodeF_packR]
  show decodeSpecial _ = _
  unfold decodeSpecial
  rw [functF_packR]
  show Decoded.instr (.sllv (rdF _) (rtF _) (rsF _)) = _
  simp

theorem RoundTrip.srlv (rd : Reg) (rt : Reg) (rs : Reg) : RoundTrip.Statement (.srlv rd rt rs) := by
  intro _
  show decode (packR 0#6 (regBits rs) (regBits rt) (regBits rd) 0#5 0x06#6) = _
  unfold decode
  rw [opcodeF_packR]
  show decodeSpecial _ = _
  unfold decodeSpecial
  rw [functF_packR]
  show Decoded.instr (.srlv (rdF _) (rtF _) (rsF _)) = _
  simp

theorem RoundTrip.srav (rd : Reg) (rt : Reg) (rs : Reg) : RoundTrip.Statement (.srav rd rt rs) := by
  intro _
  show decode (packR 0#6 (regBits rs) (regBits rt) (regBits rd) 0#5 0x07#6) = _
  unfold decode
  rw [opcodeF_packR]
  show decodeSpecial _ = _
  unfold decodeSpecial
  rw [functF_packR]
  show Decoded.instr (.srav (rdF _) (rtF _) (rsF _)) = _
  simp

theorem RoundTrip.dsll (rd : Reg) (rt : Reg) (sa : Nat) : RoundTrip.Statement (.dsll rd rt sa) := by
  intro h
  have h := of_decide_eq_true h
  show decode (packR 0#6 0#5 (regBits rt) (regBits rd) (BitVec.ofNat 5 sa) 0x38#6) = _
  unfold decode
  rw [opcodeF_packR]
  show decodeSpecial _ = _
  unfold decodeSpecial
  rw [functF_packR]
  show Decoded.instr (.dsll (rdF _) (rtF _) (saF _)) = _
  simp [Nat.mod_eq_of_lt h]

theorem RoundTrip.dsrl (rd : Reg) (rt : Reg) (sa : Nat) : RoundTrip.Statement (.dsrl rd rt sa) := by
  intro h
  have h := of_decide_eq_true h
  show decode (packR 0#6 0#5 (regBits rt) (regBits rd) (BitVec.ofNat 5 sa) 0x3A#6) = _
  unfold decode
  rw [opcodeF_packR]
  show decodeSpecial _ = _
  unfold decodeSpecial
  rw [functF_packR]
  show Decoded.instr (.dsrl (rdF _) (rtF _) (saF _)) = _
  simp [Nat.mod_eq_of_lt h]

theorem RoundTrip.dsra (rd : Reg) (rt : Reg) (sa : Nat) : RoundTrip.Statement (.dsra rd rt sa) := by
  intro h
  have h := of_decide_eq_true h
  show decode (packR 0#6 0#5 (regBits rt) (regBits rd) (BitVec.ofNat 5 sa) 0x3B#6) = _
  unfold decode
  rw [opcodeF_packR]
  show decodeSpecial _ = _
  unfold decodeSpecial
  rw [functF_packR]
  show Decoded.instr (.dsra (rdF _) (rtF _) (saF _)) = _
  simp [Nat.mod_eq_of_lt h]

theorem RoundTrip.dsll32 (rd : Reg) (rt : Reg) (sa : Nat) : RoundTrip.Statement (.dsll32 rd rt sa) := by
  intro h
  have h := of_decide_eq_true h
  show decode (packR 0#6 0#5 (regBits rt) (regBits rd) (BitVec.ofNat 5 sa) 0x3C#6) = _
  unfold decode
  rw [opcodeF_packR]
  show decodeSpecial _ = _
  unfold decodeSpecial
  rw [functF_packR]
  show Decoded.instr (.dsll32 (rdF _) (rtF _) (saF _)) = _
  simp [Nat.mod_eq_of_lt h]

theorem RoundTrip.dsrl32 (rd : Reg) (rt : Reg) (sa : Nat) : RoundTrip.Statement (.dsrl32 rd rt sa) := by
  intro h
  have h := of_decide_eq_true h
  show decode (packR 0#6 0#5 (regBits rt) (regBits rd) (BitVec.ofNat 5 sa) 0x3E#6) = _
  unfold decode
  rw [opcodeF_packR]
  show decodeSpecial _ = _
  unfold decodeSpecial
  rw [functF_packR]
  show Decoded.instr (.dsrl32 (rdF _) (rtF _) (saF _)) = _
  simp [Nat.mod_eq_of_lt h]

theorem RoundTrip.dsra32 (rd : Reg) (rt : Reg) (sa : Nat) : RoundTrip.Statement (.dsra32 rd rt sa) := by
  intro h
  have h := of_decide_eq_true h
  show decode (packR 0#6 0#5 (regBits rt) (regBits rd) (BitVec.ofNat 5 sa) 0x3F#6) = _
  unfold decode
  rw [opcodeF_packR]
  show decodeSpecial _ = _
  unfold decodeSpecial
  rw [functF_packR]
  show Decoded.instr (.dsra32 (rdF _) (rtF _) (saF _)) = _
  simp [Nat.mod_eq_of_lt h]

theorem RoundTrip.dsllv (rd : Reg) (rt : Reg) (rs : Reg) : RoundTrip.Statement (.dsllv rd rt rs) := by
  intro _
  show decode (packR 0#6 (regBits rs) (regBits rt) (regBits rd) 0#5 0x14#6) = _
  unfold decode
  rw [opcodeF_packR]
  show decodeSpecial _ = _
  unfold decodeSpecial
  rw [functF_packR]
  show Decoded.instr (.dsllv (rdF _) (rtF _) (rsF _)) = _
  simp

theorem RoundTrip.dsrlv (rd : Reg) (rt : Reg) (rs : Reg) : RoundTrip.Statement (.dsrlv rd rt rs) := by
  intro _
  show decode (packR 0#6 (regBits rs) (regBits rt) (regBits rd) 0#5 0x16#6) = _
  unfold decode
  rw [opcodeF_packR]
  show decodeSpecial _ = _
  unfold decodeSpecial
  rw [functF_packR]
  show Decoded.instr (.dsrlv (rdF _) (rtF _) (rsF _)) = _
  simp

theorem RoundTrip.dsrav (rd : Reg) (rt : Reg) (rs : Reg) : RoundTrip.Statement (.dsrav rd rt rs) := by
  intro _
  show decode (packR 0#6 (regBits rs) (regBits rt) (regBits rd) 0#5 0x17#6) = _
  unfold decode
  rw [opcodeF_packR]
  show decodeSpecial _ = _
  unfold decodeSpecial
  rw [functF_packR]
  show Decoded.instr (.dsrav (rdF _) (rtF _) (rsF _)) = _
  simp

theorem RoundTrip.mult (rs : Reg) (rt : Reg) : RoundTrip.Statement (.mult rs rt) := by
  intro _
  show decode (packR 0#6 (regBits rs) (regBits rt) 0#5 0#5 0x18#6) = _
  unfold decode
  rw [opcodeF_packR]
  show decodeSpecial _ = _
  unfold decodeSpecial
  rw [functF_packR]
  show Decoded.instr (.mult (rsF _) (rtF _)) = _
  simp

theorem RoundTrip.multu (rs : Reg) (rt : Reg) : RoundTrip.Statement (.multu rs rt) := by
  intro _
  show decode (packR 0#6 (regBits rs) (regBits rt) 0#5 0#5 0x19#6) = _
  unfold decode
  rw [opcodeF_packR]
  show decodeSpecial _ = _
  unfold decodeSpecial
  rw [functF_packR]
  show Decoded.instr (.multu (rsF _) (rtF _)) = _
  simp

theorem RoundTrip.div (rs : Reg) (rt : Reg) : RoundTrip.Statement (.div rs rt) := by
  intro _
  show decode (packR 0#6 (regBits rs) (regBits rt) 0#5 0#5 0x1A#6) = _
  unfold decode
  rw [opcodeF_packR]
  show decodeSpecial _ = _
  unfold decodeSpecial
  rw [functF_packR]
  show Decoded.instr (.div (rsF _) (rtF _)) = _
  simp

theorem RoundTrip.divu (rs : Reg) (rt : Reg) : RoundTrip.Statement (.divu rs rt) := by
  intro _
  show decode (packR 0#6 (regBits rs) (regBits rt) 0#5 0#5 0x1B#6) = _
  unfold decode
  rw [opcodeF_packR]
  show decodeSpecial _ = _
  unfold decodeSpecial
  rw [functF_packR]
  show Decoded.instr (.divu (rsF _) (rtF _)) = _
  simp

theorem RoundTrip.dmult (rs : Reg) (rt : Reg) : RoundTrip.Statement (.dmult rs rt) := by
  intro _
  show decode (packR 0#6 (regBits rs) (regBits rt) 0#5 0#5 0x1C#6) = _
  unfold decode
  rw [opcodeF_packR]
  show decodeSpecial _ = _
  unfold decodeSpecial
  rw [functF_packR]
  show Decoded.instr (.dmult (rsF _) (rtF _)) = _
  simp

theorem RoundTrip.dmultu (rs : Reg) (rt : Reg) : RoundTrip.Statement (.dmultu rs rt) := by
  intro _
  show decode (packR 0#6 (regBits rs) (regBits rt) 0#5 0#5 0x1D#6) = _
  unfold decode
  rw [opcodeF_packR]
  show decodeSpecial _ = _
  unfold decodeSpecial
  rw [functF_packR]
  show Decoded.instr (.dmultu (rsF _) (rtF _)) = _
  simp

theorem RoundTrip.ddiv (rs : Reg) (rt : Reg) : RoundTrip.Statement (.ddiv rs rt) := by
  intro _
  show decode (packR 0#6 (regBits rs) (regBits rt) 0#5 0#5 0x1E#6) = _
  unfold decode
  rw [opcodeF_packR]
  show decodeSpecial _ = _
  unfold decodeSpecial
  rw [functF_packR]
  show Decoded.instr (.ddiv (rsF _) (rtF _)) = _
  simp

theorem RoundTrip.ddivu (rs : Reg) (rt : Reg) : RoundTrip.Statement (.ddivu rs rt) := by
  intro _
  show decode (packR 0#6 (regBits rs) (regBits rt) 0#5 0#5 0x1F#6) = _
  unfold decode
  rw [opcodeF_packR]
  show decodeSpecial _ = _
  unfold decodeSpecial
  rw [functF_packR]
  show Decoded.instr (.ddivu (rsF _) (rtF _)) = _
  simp

theorem RoundTrip.mfhi (rd : Reg) : RoundTrip.Statement (.mfhi rd) := by
  intro _
  show decode (packR 0#6 0#5 0#5 (regBits rd) 0#5 0x10#6) = _
  unfold decode
  rw [opcodeF_packR]
  show decodeSpecial _ = _
  unfold decodeSpecial
  rw [functF_packR]
  show Decoded.instr (.mfhi (rdF _)) = _
  simp

theorem RoundTrip.mthi (rs : Reg) : RoundTrip.Statement (.mthi rs) := by
  intro _
  show decode (packR 0#6 (regBits rs) 0#5 0#5 0#5 0x11#6) = _
  unfold decode
  rw [opcodeF_packR]
  show decodeSpecial _ = _
  unfold decodeSpecial
  rw [functF_packR]
  show Decoded.instr (.mthi (rsF _)) = _
  simp

theorem RoundTrip.mflo (rd : Reg) : RoundTrip.Statement (.mflo rd) := by
  intro _
  show decode (packR 0#6 0#5 0#5 (regBits rd) 0#5 0x12#6) = _
  unfold decode
  rw [opcodeF_packR]
  show decodeSpecial _ = _
  unfold decodeSpecial
  rw [functF_packR]
  show Decoded.instr (.mflo (rdF _)) = _
  simp

theorem RoundTrip.mtlo (rs : Reg) : RoundTrip.Statement (.mtlo rs) := by
  intro _
  show decode (packR 0#6 (regBits rs) 0#5 0#5 0#5 0x13#6) = _
  unfold decode
  rw [opcodeF_packR]
  show decodeSpecial _ = _
  unfold decodeSpecial
  rw [functF_packR]
  show Decoded.instr (.mtlo (rsF _)) = _
  simp

theorem RoundTrip.j (target : BitVec 26) : RoundTrip.Statement (.j target) := by
  intro _
  show decode (packJ 0x02#6 target) = _
  unfold decode
  rw [opcodeF_packJ]
  show Decoded.instr (.j (targetF _)) = _
  simp

theorem RoundTrip.jal (target : BitVec 26) : RoundTrip.Statement (.jal target) := by
  intro _
  show decode (packJ 0x03#6 target) = _
  unfold decode
  rw [opcodeF_packJ]
  show Decoded.instr (.jal (targetF _)) = _
  simp

theorem RoundTrip.jr (rs : Reg) : RoundTrip.Statement (.jr rs) := by
  intro _
  show decode (packR 0#6 (regBits rs) 0#5 0#5 0#5 0x08#6) = _
  unfold decode
  rw [opcodeF_packR]
  show decodeSpecial _ = _
  unfold decodeSpecial
  rw [functF_packR]
  show Decoded.instr (.jr (rsF _)) = _
  simp

theorem RoundTrip.jalr (rd : Reg) (rs : Reg) : RoundTrip.Statement (.jalr rd rs) := by
  intro _
  show decode (packR 0#6 (regBits rs) 0#5 (regBits rd) 0#5 0x09#6) = _
  unfold decode
  rw [opcodeF_packR]
  show decodeSpecial _ = _
  unfold decodeSpecial
  rw [functF_packR]
  show Decoded.instr (.jalr (rdF _) (rsF _)) = _
  simp

theorem RoundTrip.beq (rs : Reg) (rt : Reg) (offset : BitVec 16) : RoundTrip.Statement (.beq rs rt offset) := by
  intro _
  show decode (packI 0x04#6 (regBits rs) (regBits rt) offset) = _
  unfold decode
  rw [opcodeF_packI]
  show Decoded.instr (.beq (rsF _) (rtF _) (immF _)) = _
  simp

theorem RoundTrip.bne (rs : Reg) (rt : Reg) (offset : BitVec 16) : RoundTrip.Statement (.bne rs rt offset) := by
  intro _
  show decode (packI 0x05#6 (regBits rs) (regBits rt) offset) = _
  unfold decode
  rw [opcodeF_packI]
  show Decoded.instr (.bne (rsF _) (rtF _) (immF _)) = _
  simp

theorem RoundTrip.blez (rs : Reg) (offset : BitVec 16) : RoundTrip.Statement (.blez rs offset) := by
  intro _
  show decode (packI 0x06#6 (regBits rs) 0#5 offset) = _
  unfold decode
  rw [opcodeF_packI]
  show Decoded.instr (.blez (rsF _) (immF _)) = _
  simp

theorem RoundTrip.bgtz (rs : Reg) (offset : BitVec 16) : RoundTrip.Statement (.bgtz rs offset) := by
  intro _
  show decode (packI 0x07#6 (regBits rs) 0#5 offset) = _
  unfold decode
  rw [opcodeF_packI]
  show Decoded.instr (.bgtz (rsF _) (immF _)) = _
  simp

theorem RoundTrip.beql (rs : Reg) (rt : Reg) (offset : BitVec 16) : RoundTrip.Statement (.beql rs rt offset) := by
  intro _
  show decode (packI 0x14#6 (regBits rs) (regBits rt) offset) = _
  unfold decode
  rw [opcodeF_packI]
  show Decoded.instr (.beql (rsF _) (rtF _) (immF _)) = _
  simp

theorem RoundTrip.bnel (rs : Reg) (rt : Reg) (offset : BitVec 16) : RoundTrip.Statement (.bnel rs rt offset) := by
  intro _
  show decode (packI 0x15#6 (regBits rs) (regBits rt) offset) = _
  unfold decode
  rw [opcodeF_packI]
  show Decoded.instr (.bnel (rsF _) (rtF _) (immF _)) = _
  simp

theorem RoundTrip.blezl (rs : Reg) (offset : BitVec 16) : RoundTrip.Statement (.blezl rs offset) := by
  intro _
  show decode (packI 0x16#6 (regBits rs) 0#5 offset) = _
  unfold decode
  rw [opcodeF_packI]
  show Decoded.instr (.blezl (rsF _) (immF _)) = _
  simp

theorem RoundTrip.bgtzl (rs : Reg) (offset : BitVec 16) : RoundTrip.Statement (.bgtzl rs offset) := by
  intro _
  show decode (packI 0x17#6 (regBits rs) 0#5 offset) = _
  unfold decode
  rw [opcodeF_packI]
  show Decoded.instr (.bgtzl (rsF _) (immF _)) = _
  simp

theorem RoundTrip.bltz (rs : Reg) (offset : BitVec 16) : RoundTrip.Statement (.bltz rs offset) := by
  intro _
  show decode (packI 0x01#6 (regBits rs) 0x00#5 offset) = _
  unfold decode
  rw [opcodeF_packI]
  show decodeRegimm _ = _
  unfold decodeRegimm
  rw [selF_packI]
  show Decoded.instr (.bltz (rsF _) (immF _)) = _
  simp

theorem RoundTrip.bgez (rs : Reg) (offset : BitVec 16) : RoundTrip.Statement (.bgez rs offset) := by
  intro _
  show decode (packI 0x01#6 (regBits rs) 0x01#5 offset) = _
  unfold decode
  rw [opcodeF_packI]
  show decodeRegimm _ = _
  unfold decodeRegimm
  rw [selF_packI]
  show Decoded.instr (.bgez (rsF _) (immF _)) = _
  simp

theorem RoundTrip.bltzl (rs : Reg) (offset : BitVec 16) : RoundTrip.Statement (.bltzl rs offset) := by
  intro _
  show decode (packI 0x01#6 (regBits rs) 0x02#5 offset) = _
  unfold decode
  rw [opcodeF_packI]
  show decodeRegimm _ = _
  unfold decodeRegimm
  rw [selF_packI]
  show Decoded.instr (.bltzl (rsF _) (immF _)) = _
  simp

theorem RoundTrip.bgezl (rs : Reg) (offset : BitVec 16) : RoundTrip.Statement (.bgezl rs offset) := by
  intro _
  show decode (packI 0x01#6 (regBits rs) 0x03#5 offset) = _
  unfold decode
  rw [opcodeF_packI]
  show decodeRegimm _ = _
  unfold decodeRegimm
  rw [selF_packI]
  show Decoded.instr (.bgezl (rsF _) (immF _)) = _
  simp

theorem RoundTrip.bltzal (rs : Reg) (offset : BitVec 16) : RoundTrip.Statement (.bltzal rs offset) := by
  intro _
  show decode (packI 0x01#6 (regBits rs) 0x10#5 offset) = _
  unfold decode
  rw [opcodeF_packI]
  show decodeRegimm _ = _
  unfold decodeRegimm
  rw [selF_packI]
  show Decoded.instr (.bltzal (rsF _) (immF _)) = _
  simp

theorem RoundTrip.bgezal (rs : Reg) (offset : BitVec 16) : RoundTrip.Statement (.bgezal rs offset) := by
  intro _
  show decode (packI 0x01#6 (regBits rs) 0x11#5 offset) = _
  unfold decode
  rw [opcodeF_packI]
  show decodeRegimm _ = _
  unfold decodeRegimm
  rw [selF_packI]
  show Decoded.instr (.bgezal (rsF _) (immF _)) = _
  simp

theorem RoundTrip.bltzall (rs : Reg) (offset : BitVec 16) : RoundTrip.Statement (.bltzall rs offset) := by
  intro _
  show decode (packI 0x01#6 (regBits rs) 0x12#5 offset) = _
  unfold decode
  rw [opcodeF_packI]
  show decodeRegimm _ = _
  unfold decodeRegimm
  rw [selF_packI]
  show Decoded.instr (.bltzall (rsF _) (immF _)) = _
  simp

theorem RoundTrip.bgezall (rs : Reg) (offset : BitVec 16) : RoundTrip.Statement (.bgezall rs offset) := by
  intro _
  show decode (packI 0x01#6 (regBits rs) 0x13#5 offset) = _
  unfold decode
  rw [opcodeF_packI]
  show decodeRegimm _ = _
  unfold decodeRegimm
  rw [selF_packI]
  show Decoded.instr (.bgezall (rsF _) (immF _)) = _
  simp

theorem RoundTrip.lb (rt : Reg) (base : Reg) (offset : BitVec 16) : RoundTrip.Statement (.lb rt base offset) := by
  intro _
  show decode (packI 0x20#6 (regBits base) (regBits rt) offset) = _
  unfold decode
  rw [opcodeF_packI]
  show Decoded.instr (.lb (rtF _) (rsF _) (immF _)) = _
  simp

theorem RoundTrip.lbu (rt : Reg) (base : Reg) (offset : BitVec 16) : RoundTrip.Statement (.lbu rt base offset) := by
  intro _
  show decode (packI 0x24#6 (regBits base) (regBits rt) offset) = _
  unfold decode
  rw [opcodeF_packI]
  show Decoded.instr (.lbu (rtF _) (rsF _) (immF _)) = _
  simp

theorem RoundTrip.lh (rt : Reg) (base : Reg) (offset : BitVec 16) : RoundTrip.Statement (.lh rt base offset) := by
  intro _
  show decode (packI 0x21#6 (regBits base) (regBits rt) offset) = _
  unfold decode
  rw [opcodeF_packI]
  show Decoded.instr (.lh (rtF _) (rsF _) (immF _)) = _
  simp

theorem RoundTrip.lhu (rt : Reg) (base : Reg) (offset : BitVec 16) : RoundTrip.Statement (.lhu rt base offset) := by
  intro _
  show decode (packI 0x25#6 (regBits base) (regBits rt) offset) = _
  unfold decode
  rw [opcodeF_packI]
  show Decoded.instr (.lhu (rtF _) (rsF _) (immF _)) = _
  simp

theorem RoundTrip.lw (rt : Reg) (base : Reg) (offset : BitVec 16) : RoundTrip.Statement (.lw rt base offset) := by
  intro _
  show decode (packI 0x23#6 (regBits base) (regBits rt) offset) = _
  unfold decode
  rw [opcodeF_packI]
  show Decoded.instr (.lw (rtF _) (rsF _) (immF _)) = _
  simp

theorem RoundTrip.lwu (rt : Reg) (base : Reg) (offset : BitVec 16) : RoundTrip.Statement (.lwu rt base offset) := by
  intro _
  show decode (packI 0x27#6 (regBits base) (regBits rt) offset) = _
  unfold decode
  rw [opcodeF_packI]
  show Decoded.instr (.lwu (rtF _) (rsF _) (immF _)) = _
  simp

theorem RoundTrip.ld (rt : Reg) (base : Reg) (offset : BitVec 16) : RoundTrip.Statement (.ld rt base offset) := by
  intro _
  show decode (packI 0x37#6 (regBits base) (regBits rt) offset) = _
  unfold decode
  rw [opcodeF_packI]
  show Decoded.instr (.ld (rtF _) (rsF _) (immF _)) = _
  simp

theorem RoundTrip.sb (rt : Reg) (base : Reg) (offset : BitVec 16) : RoundTrip.Statement (.sb rt base offset) := by
  intro _
  show decode (packI 0x28#6 (regBits base) (regBits rt) offset) = _
  unfold decode
  rw [opcodeF_packI]
  show Decoded.instr (.sb (rtF _) (rsF _) (immF _)) = _
  simp

theorem RoundTrip.sh (rt : Reg) (base : Reg) (offset : BitVec 16) : RoundTrip.Statement (.sh rt base offset) := by
  intro _
  show decode (packI 0x29#6 (regBits base) (regBits rt) offset) = _
  unfold decode
  rw [opcodeF_packI]
  show Decoded.instr (.sh (rtF _) (rsF _) (immF _)) = _
  simp

theorem RoundTrip.sw (rt : Reg) (base : Reg) (offset : BitVec 16) : RoundTrip.Statement (.sw rt base offset) := by
  intro _
  show decode (packI 0x2B#6 (regBits base) (regBits rt) offset) = _
  unfold decode
  rw [opcodeF_packI]
  show Decoded.instr (.sw (rtF _) (rsF _) (immF _)) = _
  simp

theorem RoundTrip.sd (rt : Reg) (base : Reg) (offset : BitVec 16) : RoundTrip.Statement (.sd rt base offset) := by
  intro _
  show decode (packI 0x3F#6 (regBits base) (regBits rt) offset) = _
  unfold decode
  rw [opcodeF_packI]
  show Decoded.instr (.sd (rtF _) (rsF _) (immF _)) = _
  simp

theorem RoundTrip.lwl (rt : Reg) (base : Reg) (offset : BitVec 16) : RoundTrip.Statement (.lwl rt base offset) := by
  intro _
  show decode (packI 0x22#6 (regBits base) (regBits rt) offset) = _
  unfold decode
  rw [opcodeF_packI]
  show Decoded.instr (.lwl (rtF _) (rsF _) (immF _)) = _
  simp

theorem RoundTrip.lwr (rt : Reg) (base : Reg) (offset : BitVec 16) : RoundTrip.Statement (.lwr rt base offset) := by
  intro _
  show decode (packI 0x26#6 (regBits base) (regBits rt) offset) = _
  unfold decode
  rw [opcodeF_packI]
  show Decoded.instr (.lwr (rtF _) (rsF _) (immF _)) = _
  simp

theorem RoundTrip.swl (rt : Reg) (base : Reg) (offset : BitVec 16) : RoundTrip.Statement (.swl rt base offset) := by
  intro _
  show decode (packI 0x2A#6 (regBits base) (regBits rt) offset) = _
  unfold decode
  rw [opcodeF_packI]
  show Decoded.instr (.swl (rtF _) (rsF _) (immF _)) = _
  simp

theorem RoundTrip.swr (rt : Reg) (base : Reg) (offset : BitVec 16) : RoundTrip.Statement (.swr rt base offset) := by
  intro _
  show decode (packI 0x2E#6 (regBits base) (regBits rt) offset) = _
  unfold decode
  rw [opcodeF_packI]
  show Decoded.instr (.swr (rtF _) (rsF _) (immF _)) = _
  simp

theorem RoundTrip.ldl (rt : Reg) (base : Reg) (offset : BitVec 16) : RoundTrip.Statement (.ldl rt base offset) := by
  intro _
  show decode (packI 0x1A#6 (regBits base) (regBits rt) offset) = _
  unfold decode
  rw [opcodeF_packI]
  show Decoded.instr (.ldl (rtF _) (rsF _) (immF _)) = _
  simp

theorem RoundTrip.ldr (rt : Reg) (base : Reg) (offset : BitVec 16) : RoundTrip.Statement (.ldr rt base offset) := by
  intro _
  show decode (packI 0x1B#6 (regBits base) (regBits rt) offset) = _
  unfold decode
  rw [opcodeF_packI]
  show Decoded.instr (.ldr (rtF _) (rsF _) (immF _)) = _
  simp

theorem RoundTrip.sdl (rt : Reg) (base : Reg) (offset : BitVec 16) : RoundTrip.Statement (.sdl rt base offset) := by
  intro _
  show decode (packI 0x2C#6 (regBits base) (regBits rt) offset) = _
  unfold decode
  rw [opcodeF_packI]
  show Decoded.instr (.sdl (rtF _) (rsF _) (immF _)) = _
  simp

theorem RoundTrip.sdr (rt : Reg) (base : Reg) (offset : BitVec 16) : RoundTrip.Statement (.sdr rt base offset) := by
  intro _
  show decode (packI 0x2D#6 (regBits base) (regBits rt) offset) = _
  unfold decode
  rw [opcodeF_packI]
  show Decoded.instr (.sdr (rtF _) (rsF _) (immF _)) = _
  simp

theorem RoundTrip.ll (rt : Reg) (base : Reg) (offset : BitVec 16) : RoundTrip.Statement (.ll rt base offset) := by
  intro _
  show decode (packI 0x30#6 (regBits base) (regBits rt) offset) = _
  unfold decode
  rw [opcodeF_packI]
  show Decoded.instr (.ll (rtF _) (rsF _) (immF _)) = _
  simp

theorem RoundTrip.lld (rt : Reg) (base : Reg) (offset : BitVec 16) : RoundTrip.Statement (.lld rt base offset) := by
  intro _
  show decode (packI 0x34#6 (regBits base) (regBits rt) offset) = _
  unfold decode
  rw [opcodeF_packI]
  show Decoded.instr (.lld (rtF _) (rsF _) (immF _)) = _
  simp

theorem RoundTrip.sc (rt : Reg) (base : Reg) (offset : BitVec 16) : RoundTrip.Statement (.sc rt base offset) := by
  intro _
  show decode (packI 0x38#6 (regBits base) (regBits rt) offset) = _
  unfold decode
  rw [opcodeF_packI]
  show Decoded.instr (.sc (rtF _) (rsF _) (immF _)) = _
  simp

theorem RoundTrip.scd (rt : Reg) (base : Reg) (offset : BitVec 16) : RoundTrip.Statement (.scd rt base offset) := by
  intro _
  show decode (packI 0x3C#6 (regBits base) (regBits rt) offset) = _
  unfold decode
  rw [opcodeF_packI]
  show Decoded.instr (.scd (rtF _) (rsF _) (immF _)) = _
  simp

theorem RoundTrip.tge (rs : Reg) (rt : Reg) (code : Nat) : RoundTrip.Statement (.tge rs rt code) := by
  intro h
  have h := of_decide_eq_true h
  show decode (packTrap (regBits rs) (regBits rt) (BitVec.ofNat 10 code) 0x30#6) = _
  unfold decode
  rw [opcodeF_packTrap]
  show decodeSpecial _ = _
  unfold decodeSpecial
  rw [functF_packTrap]
  show Decoded.instr (.tge (rsF _) (rtF _) (trapCodeF _)) = _
  simp [Nat.mod_eq_of_lt h]

theorem RoundTrip.tgeu (rs : Reg) (rt : Reg) (code : Nat) : RoundTrip.Statement (.tgeu rs rt code) := by
  intro h
  have h := of_decide_eq_true h
  show decode (packTrap (regBits rs) (regBits rt) (BitVec.ofNat 10 code) 0x31#6) = _
  unfold decode
  rw [opcodeF_packTrap]
  show decodeSpecial _ = _
  unfold decodeSpecial
  rw [functF_packTrap]
  show Decoded.instr (.tgeu (rsF _) (rtF _) (trapCodeF _)) = _
  simp [Nat.mod_eq_of_lt h]

theorem RoundTrip.tlt (rs : Reg) (rt : Reg) (code : Nat) : RoundTrip.Statement (.tlt rs rt code) := by
  intro h
  have h := of_decide_eq_true h
  show decode (packTrap (regBits rs) (regBits rt) (BitVec.ofNat 10 code) 0x32#6) = _
  unfold decode
  rw [opcodeF_packTrap]
  show decodeSpecial _ = _
  unfold decodeSpecial
  rw [functF_packTrap]
  show Decoded.instr (.tlt (rsF _) (rtF _) (trapCodeF _)) = _
  simp [Nat.mod_eq_of_lt h]

theorem RoundTrip.tltu (rs : Reg) (rt : Reg) (code : Nat) : RoundTrip.Statement (.tltu rs rt code) := by
  intro h
  have h := of_decide_eq_true h
  show decode (packTrap (regBits rs) (regBits rt) (BitVec.ofNat 10 code) 0x33#6) = _
  unfold decode
  rw [opcodeF_packTrap]
  show decodeSpecial _ = _
  unfold decodeSpecial
  rw [functF_packTrap]
  show Decoded.instr (.tltu (rsF _) (rtF _) (trapCodeF _)) = _
  simp [Nat.mod_eq_of_lt h]

theorem RoundTrip.teq (rs : Reg) (rt : Reg) (code : Nat) : RoundTrip.Statement (.teq rs rt code) := by
  intro h
  have h := of_decide_eq_true h
  show decode (packTrap (regBits rs) (regBits rt) (BitVec.ofNat 10 code) 0x34#6) = _
  unfold decode
  rw [opcodeF_packTrap]
  show decodeSpecial _ = _
  unfold decodeSpecial
  rw [functF_packTrap]
  show Decoded.instr (.teq (rsF _) (rtF _) (trapCodeF _)) = _
  simp [Nat.mod_eq_of_lt h]

theorem RoundTrip.tne (rs : Reg) (rt : Reg) (code : Nat) : RoundTrip.Statement (.tne rs rt code) := by
  intro h
  have h := of_decide_eq_true h
  show decode (packTrap (regBits rs) (regBits rt) (BitVec.ofNat 10 code) 0x36#6) = _
  unfold decode
  rw [opcodeF_packTrap]
  show decodeSpecial _ = _
  unfold decodeSpecial
  rw [functF_packTrap]
  show Decoded.instr (.tne (rsF _) (rtF _) (trapCodeF _)) = _
  simp [Nat.mod_eq_of_lt h]

theorem RoundTrip.tgei (rs : Reg) (imm : BitVec 16) : RoundTrip.Statement (.tgei rs imm) := by
  intro _
  show decode (packI 0x01#6 (regBits rs) 0x08#5 imm) = _
  unfold decode
  rw [opcodeF_packI]
  show decodeRegimm _ = _
  unfold decodeRegimm
  rw [selF_packI]
  show Decoded.instr (.tgei (rsF _) (immF _)) = _
  simp

theorem RoundTrip.tgeiu (rs : Reg) (imm : BitVec 16) : RoundTrip.Statement (.tgeiu rs imm) := by
  intro _
  show decode (packI 0x01#6 (regBits rs) 0x09#5 imm) = _
  unfold decode
  rw [opcodeF_packI]
  show decodeRegimm _ = _
  unfold decodeRegimm
  rw [selF_packI]
  show Decoded.instr (.tgeiu (rsF _) (immF _)) = _
  simp

theorem RoundTrip.tlti (rs : Reg) (imm : BitVec 16) : RoundTrip.Statement (.tlti rs imm) := by
  intro _
  show decode (packI 0x01#6 (regBits rs) 0x0A#5 imm) = _
  unfold decode
  rw [opcodeF_packI]
  show decodeRegimm _ = _
  unfold decodeRegimm
  rw [selF_packI]
  show Decoded.instr (.tlti (rsF _) (immF _)) = _
  simp

theorem RoundTrip.tltiu (rs : Reg) (imm : BitVec 16) : RoundTrip.Statement (.tltiu rs imm) := by
  intro _
  show decode (packI 0x01#6 (regBits rs) 0x0B#5 imm) = _
  unfold decode
  rw [opcodeF_packI]
  show decodeRegimm _ = _
  unfold decodeRegimm
  rw [selF_packI]
  show Decoded.instr (.tltiu (rsF _) (immF _)) = _
  simp

theorem RoundTrip.teqi (rs : Reg) (imm : BitVec 16) : RoundTrip.Statement (.teqi rs imm) := by
  intro _
  show decode (packI 0x01#6 (regBits rs) 0x0C#5 imm) = _
  unfold decode
  rw [opcodeF_packI]
  show decodeRegimm _ = _
  unfold decodeRegimm
  rw [selF_packI]
  show Decoded.instr (.teqi (rsF _) (immF _)) = _
  simp

theorem RoundTrip.tnei (rs : Reg) (imm : BitVec 16) : RoundTrip.Statement (.tnei rs imm) := by
  intro _
  show decode (packI 0x01#6 (regBits rs) 0x0E#5 imm) = _
  unfold decode
  rw [opcodeF_packI]
  show decodeRegimm _ = _
  unfold decodeRegimm
  rw [selF_packI]
  show Decoded.instr (.tnei (rsF _) (immF _)) = _
  simp

theorem RoundTrip.syscall (code : Nat) : RoundTrip.Statement (.syscall code) := by
  intro h
  have h := of_decide_eq_true h
  show decode (packCode (BitVec.ofNat 20 code) 0x0C#6) = _
  unfold decode
  rw [opcodeF_packCode]
  show decodeSpecial _ = _
  unfold decodeSpecial
  rw [functF_packCode]
  show Decoded.instr (.syscall (codeF _)) = _
  simp [Nat.mod_eq_of_lt h]

theorem RoundTrip.breakI (code : Nat) : RoundTrip.Statement (.breakI code) := by
  intro h
  have h := of_decide_eq_true h
  show decode (packCode (BitVec.ofNat 20 code) 0x0D#6) = _
  unfold decode
  rw [opcodeF_packCode]
  show decodeSpecial _ = _
  unfold decodeSpecial
  rw [functF_packCode]
  show Decoded.instr (.breakI (codeF _)) = _
  simp [Nat.mod_eq_of_lt h]

theorem RoundTrip.sync : RoundTrip.Statement (.sync) := by
  intro _
  show decode (packR 0#6 0#5 0#5 0#5 0#5 0x0F#6) = _
  unfold decode
  rw [opcodeF_packR]
  show decodeSpecial _ = _
  unfold decodeSpecial
  rw [functF_packR]
  show Decoded.instr (.sync) = _
  rfl

theorem RoundTrip.cache (op : Nat) (base : Reg) (offset : BitVec 16) : RoundTrip.Statement (.cache op base offset) := by
  intro h
  have h := of_decide_eq_true h
  show decode (packI 0x2F#6 (regBits base) (BitVec.ofNat 5 op) offset) = _
  unfold decode
  rw [opcodeF_packI]
  show Decoded.instr (.cache (opF _) (rsF _) (immF _)) = _
  simp [Nat.mod_eq_of_lt h]

theorem RoundTrip.mfc0 (rt : Reg) (rd : CReg) : RoundTrip.Statement (.mfc0 rt rd) := by
  intro _
  simp [encode, decode, decodeCop0]

theorem RoundTrip.dmfc0 (rt : Reg) (rd : CReg) : RoundTrip.Statement (.dmfc0 rt rd) := by
  intro _
  simp [encode, decode, decodeCop0]

theorem RoundTrip.mtc0 (rt : Reg) (rd : CReg) : RoundTrip.Statement (.mtc0 rt rd) := by
  intro _
  simp [encode, decode, decodeCop0]

theorem RoundTrip.dmtc0 (rt : Reg) (rd : CReg) : RoundTrip.Statement (.dmtc0 rt rd) := by
  intro _
  simp [encode, decode, decodeCop0]

theorem RoundTrip.tlbr : RoundTrip.Statement (.tlbr) := by
  intro _
  simp [encode, decode, decodeCop0, decodeCo]

theorem RoundTrip.tlbwi : RoundTrip.Statement (.tlbwi) := by
  intro _
  simp [encode, decode, decodeCop0, decodeCo]

theorem RoundTrip.tlbwr : RoundTrip.Statement (.tlbwr) := by
  intro _
  simp [encode, decode, decodeCop0, decodeCo]

theorem RoundTrip.tlbp : RoundTrip.Statement (.tlbp) := by
  intro _
  simp [encode, decode, decodeCop0, decodeCo]

theorem RoundTrip.eret : RoundTrip.Statement (.eret) := by
  intro _
  decide

theorem RoundTrip.cop2 (cofun : Nat) : RoundTrip.Statement (.cop2 cofun) := by
  intro h
  have h := of_decide_eq_true h
  show decode (packJ 0x12#6 (BitVec.ofNat 26 cofun)) = _
  unfold decode
  rw [opcodeF_packJ]
  show Decoded.instr (.cop2 (cofunF _)) = _
  simp [Nat.mod_eq_of_lt h]

theorem RoundTrip.lwc2 (rt : Reg) (base : Reg) (offset : BitVec 16) : RoundTrip.Statement (.lwc2 rt base offset) := by
  intro _
  show decode (packI 0x32#6 (regBits base) (regBits rt) offset) = _
  unfold decode
  rw [opcodeF_packI]
  show Decoded.instr (.lwc2 (rtF _) (rsF _) (immF _)) = _
  simp

theorem RoundTrip.ldc2 (rt : Reg) (base : Reg) (offset : BitVec 16) : RoundTrip.Statement (.ldc2 rt base offset) := by
  intro _
  show decode (packI 0x36#6 (regBits base) (regBits rt) offset) = _
  unfold decode
  rw [opcodeF_packI]
  show Decoded.instr (.ldc2 (rtF _) (rsF _) (immF _)) = _
  simp

theorem RoundTrip.swc2 (rt : Reg) (base : Reg) (offset : BitVec 16) : RoundTrip.Statement (.swc2 rt base offset) := by
  intro _
  show decode (packI 0x3A#6 (regBits base) (regBits rt) offset) = _
  unfold decode
  rw [opcodeF_packI]
  show Decoded.instr (.swc2 (rtF _) (rsF _) (immF _)) = _
  simp

theorem RoundTrip.sdc2 (rt : Reg) (base : Reg) (offset : BitVec 16) : RoundTrip.Statement (.sdc2 rt base offset) := by
  intro _
  show decode (packI 0x3E#6 (regBits base) (regBits rt) offset) = _
  unfold decode
  rw [opcodeF_packI]
  show Decoded.instr (.sdc2 (rtF _) (rsF _) (immF _)) = _
  simp

theorem RoundTrip.mfc1 (rt : Reg) (fs : FReg) : RoundTrip.Statement (.mfc1 rt fs) := by
  intro _
  show decode (packR 0x11#6 0x00#5 (regBits rt) (regBits fs) 0#5 0#6) = _
  unfold decode
  rw [opcodeF_packR]
  show decodeCop1 _ = _
  unfold decodeCop1
  rw [subF_packR]
  show Decoded.instr (.mfc1 (rtF _) (rdF _)) = _
  simp

theorem RoundTrip.dmfc1 (rt : Reg) (fs : FReg) : RoundTrip.Statement (.dmfc1 rt fs) := by
  intro _
  show decode (packR 0x11#6 0x01#5 (regBits rt) (regBits fs) 0#5 0#6) = _
  unfold decode
  rw [opcodeF_packR]
  show decodeCop1 _ = _
  unfold decodeCop1
  rw [subF_packR]
  show Decoded.instr (.dmfc1 (rtF _) (rdF _)) = _
  simp

theorem RoundTrip.cfc1 (rt : Reg) (fs : CReg) : RoundTrip.Statement (.cfc1 rt fs) := by
  intro _
  show decode (packR 0x11#6 0x02#5 (regBits rt) (regBits fs) 0#5 0#6) = _
  unfold decode
  rw [opcodeF_packR]
  show decodeCop1 _ = _
  unfold decodeCop1
  rw [subF_packR]
  show Decoded.instr (.cfc1 (rtF _) (rdF _)) = _
  simp

theorem RoundTrip.mtc1 (rt : Reg) (fs : FReg) : RoundTrip.Statement (.mtc1 rt fs) := by
  intro _
  show decode (packR 0x11#6 0x04#5 (regBits rt) (regBits fs) 0#5 0#6) = _
  unfold decode
  rw [opcodeF_packR]
  show decodeCop1 _ = _
  unfold decodeCop1
  rw [subF_packR]
  show Decoded.instr (.mtc1 (rtF _) (rdF _)) = _
  simp

theorem RoundTrip.dmtc1 (rt : Reg) (fs : FReg) : RoundTrip.Statement (.dmtc1 rt fs) := by
  intro _
  show decode (packR 0x11#6 0x05#5 (regBits rt) (regBits fs) 0#5 0#6) = _
  unfold decode
  rw [opcodeF_packR]
  show decodeCop1 _ = _
  unfold decodeCop1
  rw [subF_packR]
  show Decoded.instr (.dmtc1 (rtF _) (rdF _)) = _
  simp

theorem RoundTrip.ctc1 (rt : Reg) (fs : CReg) : RoundTrip.Statement (.ctc1 rt fs) := by
  intro _
  show decode (packR 0x11#6 0x06#5 (regBits rt) (regBits fs) 0#5 0#6) = _
  unfold decode
  rw [opcodeF_packR]
  show decodeCop1 _ = _
  unfold decodeCop1
  rw [subF_packR]
  show Decoded.instr (.ctc1 (rtF _) (rdF _)) = _
  simp

theorem RoundTrip.bc1f (offset : BitVec 16) : RoundTrip.Statement (.bc1f offset) := by
  intro _
  show decode (packI 0x11#6 0x08#5 0x00#5 offset) = _
  unfold decode
  rw [opcodeF_packI]
  show decodeCop1 _ = _
  unfold decodeCop1
  rw [subF_packI]
  show decodeBc1 _ = _
  unfold decodeBc1
  rw [selF_packI]
  show Decoded.instr (.bc1f (immF _)) = _
  simp

theorem RoundTrip.bc1t (offset : BitVec 16) : RoundTrip.Statement (.bc1t offset) := by
  intro _
  show decode (packI 0x11#6 0x08#5 0x01#5 offset) = _
  unfold decode
  rw [opcodeF_packI]
  show decodeCop1 _ = _
  unfold decodeCop1
  rw [subF_packI]
  show decodeBc1 _ = _
  unfold decodeBc1
  rw [selF_packI]
  show Decoded.instr (.bc1t (immF _)) = _
  simp

theorem RoundTrip.bc1fl (offset : BitVec 16) : RoundTrip.Statement (.bc1fl offset) := by
  intro _
  show decode (packI 0x11#6 0x08#5 0x02#5 offset) = _
  unfold decode
  rw [opcodeF_packI]
  show decodeCop1 _ = _
  unfold decodeCop1
  rw [subF_packI]
  show decodeBc1 _ = _
  unfold decodeBc1
  rw [selF_packI]
  show Decoded.instr (.bc1fl (immF _)) = _
  simp

theorem RoundTrip.bc1tl (offset : BitVec 16) : RoundTrip.Statement (.bc1tl offset) := by
  intro _
  show decode (packI 0x11#6 0x08#5 0x03#5 offset) = _
  unfold decode
  rw [opcodeF_packI]
  show decodeCop1 _ = _
  unfold decodeCop1
  rw [subF_packI]
  show decodeBc1 _ = _
  unfold decodeBc1
  rw [selF_packI]
  show Decoded.instr (.bc1tl (immF _)) = _
  simp

theorem RoundTrip.lwc1 (ft : FReg) (base : Reg) (offset : BitVec 16) : RoundTrip.Statement (.lwc1 ft base offset) := by
  intro _
  show decode (packI 0x31#6 (regBits base) (regBits ft) offset) = _
  unfold decode
  rw [opcodeF_packI]
  show Decoded.instr (.lwc1 (rtF _) (rsF _) (immF _)) = _
  simp

theorem RoundTrip.ldc1 (ft : FReg) (base : Reg) (offset : BitVec 16) : RoundTrip.Statement (.ldc1 ft base offset) := by
  intro _
  show decode (packI 0x35#6 (regBits base) (regBits ft) offset) = _
  unfold decode
  rw [opcodeF_packI]
  show Decoded.instr (.ldc1 (rtF _) (rsF _) (immF _)) = _
  simp

theorem RoundTrip.swc1 (ft : FReg) (base : Reg) (offset : BitVec 16) : RoundTrip.Statement (.swc1 ft base offset) := by
  intro _
  show decode (packI 0x39#6 (regBits base) (regBits ft) offset) = _
  unfold decode
  rw [opcodeF_packI]
  show Decoded.instr (.swc1 (rtF _) (rsF _) (immF _)) = _
  simp

theorem RoundTrip.sdc1 (ft : FReg) (base : Reg) (offset : BitVec 16) : RoundTrip.Statement (.sdc1 ft base offset) := by
  intro _
  show decode (packI 0x3D#6 (regBits base) (regBits ft) offset) = _
  unfold decode
  rw [opcodeF_packI]
  show Decoded.instr (.sdc1 (rtF _) (rsF _) (immF _)) = _
  simp

theorem RoundTrip.addS (fd : FReg) (fs : FReg) (ft : FReg) : RoundTrip.Statement (.addS fd fs ft) := by
  intro _
  show decode (packR 0x11#6 0x10#5 (regBits ft) (regBits fs) (regBits fd) 0x00#6) = _
  unfold decode
  rw [opcodeF_packR]
  show decodeCop1 _ = _
  unfold decodeCop1
  rw [subF_packR]
  show decodeFmtS _ = _
  unfold decodeFmtS
  rw [functF_packR]
  show Decoded.instr (.addS (fdF _) (rdF _) (rtF _)) = _
  simp

theorem RoundTrip.addD (fd : FReg) (fs : FReg) (ft : FReg) : RoundTrip.Statement (.addD fd fs ft) := by
  intro _
  show decode (packR 0x11#6 0x11#5 (regBits ft) (regBits fs) (regBits fd) 0x00#6) = _
  unfold decode
  rw [opcodeF_packR]
  show decodeCop1 _ = _
  unfold decodeCop1
  rw [subF_packR]
  show decodeFmtD _ = _
  unfold decodeFmtD
  rw [functF_packR]
  show Decoded.instr (.addD (fdF _) (rdF _) (rtF _)) = _
  simp

theorem RoundTrip.subS (fd : FReg) (fs : FReg) (ft : FReg) : RoundTrip.Statement (.subS fd fs ft) := by
  intro _
  show decode (packR 0x11#6 0x10#5 (regBits ft) (regBits fs) (regBits fd) 0x01#6) = _
  unfold decode
  rw [opcodeF_packR]
  show decodeCop1 _ = _
  unfold decodeCop1
  rw [subF_packR]
  show decodeFmtS _ = _
  unfold decodeFmtS
  rw [functF_packR]
  show Decoded.instr (.subS (fdF _) (rdF _) (rtF _)) = _
  simp

theorem RoundTrip.subD (fd : FReg) (fs : FReg) (ft : FReg) : RoundTrip.Statement (.subD fd fs ft) := by
  intro _
  show decode (packR 0x11#6 0x11#5 (regBits ft) (regBits fs) (regBits fd) 0x01#6) = _
  unfold decode
  rw [opcodeF_packR]
  show decodeCop1 _ = _
  unfold decodeCop1
  rw [subF_packR]
  show decodeFmtD _ = _
  unfold decodeFmtD
  rw [functF_packR]
  show Decoded.instr (.subD (fdF _) (rdF _) (rtF _)) = _
  simp

theorem RoundTrip.mulS (fd : FReg) (fs : FReg) (ft : FReg) : RoundTrip.Statement (.mulS fd fs ft) := by
  intro _
  show decode (packR 0x11#6 0x10#5 (regBits ft) (regBits fs) (regBits fd) 0x02#6) = _
  unfold decode
  rw [opcodeF_packR]
  show decodeCop1 _ = _
  unfold decodeCop1
  rw [subF_packR]
  show decodeFmtS _ = _
  unfold decodeFmtS
  rw [functF_packR]
  show Decoded.instr (.mulS (fdF _) (rdF _) (rtF _)) = _
  simp

theorem RoundTrip.mulD (fd : FReg) (fs : FReg) (ft : FReg) : RoundTrip.Statement (.mulD fd fs ft) := by
  intro _
  show decode (packR 0x11#6 0x11#5 (regBits ft) (regBits fs) (regBits fd) 0x02#6) = _
  unfold decode
  rw [opcodeF_packR]
  show decodeCop1 _ = _
  unfold decodeCop1
  rw [subF_packR]
  show decodeFmtD _ = _
  unfold decodeFmtD
  rw [functF_packR]
  show Decoded.instr (.mulD (fdF _) (rdF _) (rtF _)) = _
  simp

theorem RoundTrip.divS (fd : FReg) (fs : FReg) (ft : FReg) : RoundTrip.Statement (.divS fd fs ft) := by
  intro _
  show decode (packR 0x11#6 0x10#5 (regBits ft) (regBits fs) (regBits fd) 0x03#6) = _
  unfold decode
  rw [opcodeF_packR]
  show decodeCop1 _ = _
  unfold decodeCop1
  rw [subF_packR]
  show decodeFmtS _ = _
  unfold decodeFmtS
  rw [functF_packR]
  show Decoded.instr (.divS (fdF _) (rdF _) (rtF _)) = _
  simp

theorem RoundTrip.divD (fd : FReg) (fs : FReg) (ft : FReg) : RoundTrip.Statement (.divD fd fs ft) := by
  intro _
  show decode (packR 0x11#6 0x11#5 (regBits ft) (regBits fs) (regBits fd) 0x03#6) = _
  unfold decode
  rw [opcodeF_packR]
  show decodeCop1 _ = _
  unfold decodeCop1
  rw [subF_packR]
  show decodeFmtD _ = _
  unfold decodeFmtD
  rw [functF_packR]
  show Decoded.instr (.divD (fdF _) (rdF _) (rtF _)) = _
  simp

theorem RoundTrip.sqrtS (fd : FReg) (fs : FReg) : RoundTrip.Statement (.sqrtS fd fs) := by
  intro _
  show decode (packR 0x11#6 0x10#5 0#5 (regBits fs) (regBits fd) 0x04#6) = _
  unfold decode
  rw [opcodeF_packR]
  show decodeCop1 _ = _
  unfold decodeCop1
  rw [subF_packR]
  show decodeFmtS _ = _
  unfold decodeFmtS
  rw [functF_packR]
  show Decoded.instr (.sqrtS (fdF _) (rdF _)) = _
  simp

theorem RoundTrip.sqrtD (fd : FReg) (fs : FReg) : RoundTrip.Statement (.sqrtD fd fs) := by
  intro _
  show decode (packR 0x11#6 0x11#5 0#5 (regBits fs) (regBits fd) 0x04#6) = _
  unfold decode
  rw [opcodeF_packR]
  show decodeCop1 _ = _
  unfold decodeCop1
  rw [subF_packR]
  show decodeFmtD _ = _
  unfold decodeFmtD
  rw [functF_packR]
  show Decoded.instr (.sqrtD (fdF _) (rdF _)) = _
  simp

theorem RoundTrip.absS (fd : FReg) (fs : FReg) : RoundTrip.Statement (.absS fd fs) := by
  intro _
  show decode (packR 0x11#6 0x10#5 0#5 (regBits fs) (regBits fd) 0x05#6) = _
  unfold decode
  rw [opcodeF_packR]
  show decodeCop1 _ = _
  unfold decodeCop1
  rw [subF_packR]
  show decodeFmtS _ = _
  unfold decodeFmtS
  rw [functF_packR]
  show Decoded.instr (.absS (fdF _) (rdF _)) = _
  simp

theorem RoundTrip.absD (fd : FReg) (fs : FReg) : RoundTrip.Statement (.absD fd fs) := by
  intro _
  show decode (packR 0x11#6 0x11#5 0#5 (regBits fs) (regBits fd) 0x05#6) = _
  unfold decode
  rw [opcodeF_packR]
  show decodeCop1 _ = _
  unfold decodeCop1
  rw [subF_packR]
  show decodeFmtD _ = _
  unfold decodeFmtD
  rw [functF_packR]
  show Decoded.instr (.absD (fdF _) (rdF _)) = _
  simp

theorem RoundTrip.movS (fd : FReg) (fs : FReg) : RoundTrip.Statement (.movS fd fs) := by
  intro _
  show decode (packR 0x11#6 0x10#5 0#5 (regBits fs) (regBits fd) 0x06#6) = _
  unfold decode
  rw [opcodeF_packR]
  show decodeCop1 _ = _
  unfold decodeCop1
  rw [subF_packR]
  show decodeFmtS _ = _
  unfold decodeFmtS
  rw [functF_packR]
  show Decoded.instr (.movS (fdF _) (rdF _)) = _
  simp

theorem RoundTrip.movD (fd : FReg) (fs : FReg) : RoundTrip.Statement (.movD fd fs) := by
  intro _
  show decode (packR 0x11#6 0x11#5 0#5 (regBits fs) (regBits fd) 0x06#6) = _
  unfold decode
  rw [opcodeF_packR]
  show decodeCop1 _ = _
  unfold decodeCop1
  rw [subF_packR]
  show decodeFmtD _ = _
  unfold decodeFmtD
  rw [functF_packR]
  show Decoded.instr (.movD (fdF _) (rdF _)) = _
  simp

theorem RoundTrip.negS (fd : FReg) (fs : FReg) : RoundTrip.Statement (.negS fd fs) := by
  intro _
  show decode (packR 0x11#6 0x10#5 0#5 (regBits fs) (regBits fd) 0x07#6) = _
  unfold decode
  rw [opcodeF_packR]
  show decodeCop1 _ = _
  unfold decodeCop1
  rw [subF_packR]
  show decodeFmtS _ = _
  unfold decodeFmtS
  rw [functF_packR]
  show Decoded.instr (.negS (fdF _) (rdF _)) = _
  simp

theorem RoundTrip.negD (fd : FReg) (fs : FReg) : RoundTrip.Statement (.negD fd fs) := by
  intro _
  show decode (packR 0x11#6 0x11#5 0#5 (regBits fs) (regBits fd) 0x07#6) = _
  unfold decode
  rw [opcodeF_packR]
  show decodeCop1 _ = _
  unfold decodeCop1
  rw [subF_packR]
  show decodeFmtD _ = _
  unfold decodeFmtD
  rw [functF_packR]
  show Decoded.instr (.negD (fdF _) (rdF _)) = _
  simp

theorem RoundTrip.roundLS (fd : FReg) (fs : FReg) : RoundTrip.Statement (.roundLS fd fs) := by
  intro _
  show decode (packR 0x11#6 0x10#5 0#5 (regBits fs) (regBits fd) 0x08#6) = _
  unfold decode
  rw [opcodeF_packR]
  show decodeCop1 _ = _
  unfold decodeCop1
  rw [subF_packR]
  show decodeFmtS _ = _
  unfold decodeFmtS
  rw [functF_packR]
  show Decoded.instr (.roundLS (fdF _) (rdF _)) = _
  simp

theorem RoundTrip.roundLD (fd : FReg) (fs : FReg) : RoundTrip.Statement (.roundLD fd fs) := by
  intro _
  show decode (packR 0x11#6 0x11#5 0#5 (regBits fs) (regBits fd) 0x08#6) = _
  unfold decode
  rw [opcodeF_packR]
  show decodeCop1 _ = _
  unfold decodeCop1
  rw [subF_packR]
  show decodeFmtD _ = _
  unfold decodeFmtD
  rw [functF_packR]
  show Decoded.instr (.roundLD (fdF _) (rdF _)) = _
  simp

theorem RoundTrip.truncLS (fd : FReg) (fs : FReg) : RoundTrip.Statement (.truncLS fd fs) := by
  intro _
  show decode (packR 0x11#6 0x10#5 0#5 (regBits fs) (regBits fd) 0x09#6) = _
  unfold decode
  rw [opcodeF_packR]
  show decodeCop1 _ = _
  unfold decodeCop1
  rw [subF_packR]
  show decodeFmtS _ = _
  unfold decodeFmtS
  rw [functF_packR]
  show Decoded.instr (.truncLS (fdF _) (rdF _)) = _
  simp

theorem RoundTrip.truncLD (fd : FReg) (fs : FReg) : RoundTrip.Statement (.truncLD fd fs) := by
  intro _
  show decode (packR 0x11#6 0x11#5 0#5 (regBits fs) (regBits fd) 0x09#6) = _
  unfold decode
  rw [opcodeF_packR]
  show decodeCop1 _ = _
  unfold decodeCop1
  rw [subF_packR]
  show decodeFmtD _ = _
  unfold decodeFmtD
  rw [functF_packR]
  show Decoded.instr (.truncLD (fdF _) (rdF _)) = _
  simp

theorem RoundTrip.ceilLS (fd : FReg) (fs : FReg) : RoundTrip.Statement (.ceilLS fd fs) := by
  intro _
  show decode (packR 0x11#6 0x10#5 0#5 (regBits fs) (regBits fd) 0x0A#6) = _
  unfold decode
  rw [opcodeF_packR]
  show decodeCop1 _ = _
  unfold decodeCop1
  rw [subF_packR]
  show decodeFmtS _ = _
  unfold decodeFmtS
  rw [functF_packR]
  show Decoded.instr (.ceilLS (fdF _) (rdF _)) = _
  simp

theorem RoundTrip.ceilLD (fd : FReg) (fs : FReg) : RoundTrip.Statement (.ceilLD fd fs) := by
  intro _
  show decode (packR 0x11#6 0x11#5 0#5 (regBits fs) (regBits fd) 0x0A#6) = _
  unfold decode
  rw [opcodeF_packR]
  show decodeCop1 _ = _
  unfold decodeCop1
  rw [subF_packR]
  show decodeFmtD _ = _
  unfold decodeFmtD
  rw [functF_packR]
  show Decoded.instr (.ceilLD (fdF _) (rdF _)) = _
  simp

theorem RoundTrip.floorLS (fd : FReg) (fs : FReg) : RoundTrip.Statement (.floorLS fd fs) := by
  intro _
  show decode (packR 0x11#6 0x10#5 0#5 (regBits fs) (regBits fd) 0x0B#6) = _
  unfold decode
  rw [opcodeF_packR]
  show decodeCop1 _ = _
  unfold decodeCop1
  rw [subF_packR]
  show decodeFmtS _ = _
  unfold decodeFmtS
  rw [functF_packR]
  show Decoded.instr (.floorLS (fdF _) (rdF _)) = _
  simp

theorem RoundTrip.floorLD (fd : FReg) (fs : FReg) : RoundTrip.Statement (.floorLD fd fs) := by
  intro _
  show decode (packR 0x11#6 0x11#5 0#5 (regBits fs) (regBits fd) 0x0B#6) = _
  unfold decode
  rw [opcodeF_packR]
  show decodeCop1 _ = _
  unfold decodeCop1
  rw [subF_packR]
  show decodeFmtD _ = _
  unfold decodeFmtD
  rw [functF_packR]
  show Decoded.instr (.floorLD (fdF _) (rdF _)) = _
  simp

theorem RoundTrip.roundWS (fd : FReg) (fs : FReg) : RoundTrip.Statement (.roundWS fd fs) := by
  intro _
  show decode (packR 0x11#6 0x10#5 0#5 (regBits fs) (regBits fd) 0x0C#6) = _
  unfold decode
  rw [opcodeF_packR]
  show decodeCop1 _ = _
  unfold decodeCop1
  rw [subF_packR]
  show decodeFmtS _ = _
  unfold decodeFmtS
  rw [functF_packR]
  show Decoded.instr (.roundWS (fdF _) (rdF _)) = _
  simp

theorem RoundTrip.roundWD (fd : FReg) (fs : FReg) : RoundTrip.Statement (.roundWD fd fs) := by
  intro _
  show decode (packR 0x11#6 0x11#5 0#5 (regBits fs) (regBits fd) 0x0C#6) = _
  unfold decode
  rw [opcodeF_packR]
  show decodeCop1 _ = _
  unfold decodeCop1
  rw [subF_packR]
  show decodeFmtD _ = _
  unfold decodeFmtD
  rw [functF_packR]
  show Decoded.instr (.roundWD (fdF _) (rdF _)) = _
  simp

theorem RoundTrip.truncWS (fd : FReg) (fs : FReg) : RoundTrip.Statement (.truncWS fd fs) := by
  intro _
  show decode (packR 0x11#6 0x10#5 0#5 (regBits fs) (regBits fd) 0x0D#6) = _
  unfold decode
  rw [opcodeF_packR]
  show decodeCop1 _ = _
  unfold decodeCop1
  rw [subF_packR]
  show decodeFmtS _ = _
  unfold decodeFmtS
  rw [functF_packR]
  show Decoded.instr (.truncWS (fdF _) (rdF _)) = _
  simp

theorem RoundTrip.truncWD (fd : FReg) (fs : FReg) : RoundTrip.Statement (.truncWD fd fs) := by
  intro _
  show decode (packR 0x11#6 0x11#5 0#5 (regBits fs) (regBits fd) 0x0D#6) = _
  unfold decode
  rw [opcodeF_packR]
  show decodeCop1 _ = _
  unfold decodeCop1
  rw [subF_packR]
  show decodeFmtD _ = _
  unfold decodeFmtD
  rw [functF_packR]
  show Decoded.instr (.truncWD (fdF _) (rdF _)) = _
  simp

theorem RoundTrip.ceilWS (fd : FReg) (fs : FReg) : RoundTrip.Statement (.ceilWS fd fs) := by
  intro _
  show decode (packR 0x11#6 0x10#5 0#5 (regBits fs) (regBits fd) 0x0E#6) = _
  unfold decode
  rw [opcodeF_packR]
  show decodeCop1 _ = _
  unfold decodeCop1
  rw [subF_packR]
  show decodeFmtS _ = _
  unfold decodeFmtS
  rw [functF_packR]
  show Decoded.instr (.ceilWS (fdF _) (rdF _)) = _
  simp

theorem RoundTrip.ceilWD (fd : FReg) (fs : FReg) : RoundTrip.Statement (.ceilWD fd fs) := by
  intro _
  show decode (packR 0x11#6 0x11#5 0#5 (regBits fs) (regBits fd) 0x0E#6) = _
  unfold decode
  rw [opcodeF_packR]
  show decodeCop1 _ = _
  unfold decodeCop1
  rw [subF_packR]
  show decodeFmtD _ = _
  unfold decodeFmtD
  rw [functF_packR]
  show Decoded.instr (.ceilWD (fdF _) (rdF _)) = _
  simp

theorem RoundTrip.floorWS (fd : FReg) (fs : FReg) : RoundTrip.Statement (.floorWS fd fs) := by
  intro _
  show decode (packR 0x11#6 0x10#5 0#5 (regBits fs) (regBits fd) 0x0F#6) = _
  unfold decode
  rw [opcodeF_packR]
  show decodeCop1 _ = _
  unfold decodeCop1
  rw [subF_packR]
  show decodeFmtS _ = _
  unfold decodeFmtS
  rw [functF_packR]
  show Decoded.instr (.floorWS (fdF _) (rdF _)) = _
  simp

theorem RoundTrip.floorWD (fd : FReg) (fs : FReg) : RoundTrip.Statement (.floorWD fd fs) := by
  intro _
  show decode (packR 0x11#6 0x11#5 0#5 (regBits fs) (regBits fd) 0x0F#6) = _
  unfold decode
  rw [opcodeF_packR]
  show decodeCop1 _ = _
  unfold decodeCop1
  rw [subF_packR]
  show decodeFmtD _ = _
  unfold decodeFmtD
  rw [functF_packR]
  show Decoded.instr (.floorWD (fdF _) (rdF _)) = _
  simp

theorem RoundTrip.cvtSD (fd : FReg) (fs : FReg) : RoundTrip.Statement (.cvtSD fd fs) := by
  intro _
  show decode (packR 0x11#6 0x11#5 0#5 (regBits fs) (regBits fd) 0x20#6) = _
  unfold decode
  rw [opcodeF_packR]
  show decodeCop1 _ = _
  unfold decodeCop1
  rw [subF_packR]
  show decodeFmtD _ = _
  unfold decodeFmtD
  rw [functF_packR]
  show Decoded.instr (.cvtSD (fdF _) (rdF _)) = _
  simp

theorem RoundTrip.cvtSW (fd : FReg) (fs : FReg) : RoundTrip.Statement (.cvtSW fd fs) := by
  intro _
  show decode (packR 0x11#6 0x14#5 0#5 (regBits fs) (regBits fd) 0x20#6) = _
  unfold decode
  rw [opcodeF_packR]
  show decodeCop1 _ = _
  unfold decodeCop1
  rw [subF_packR]
  show decodeFmtW _ = _
  unfold decodeFmtW
  rw [functF_packR]
  show Decoded.instr (.cvtSW (fdF _) (rdF _)) = _
  simp

theorem RoundTrip.cvtSL (fd : FReg) (fs : FReg) : RoundTrip.Statement (.cvtSL fd fs) := by
  intro _
  show decode (packR 0x11#6 0x15#5 0#5 (regBits fs) (regBits fd) 0x20#6) = _
  unfold decode
  rw [opcodeF_packR]
  show decodeCop1 _ = _
  unfold decodeCop1
  rw [subF_packR]
  show decodeFmtL _ = _
  unfold decodeFmtL
  rw [functF_packR]
  show Decoded.instr (.cvtSL (fdF _) (rdF _)) = _
  simp

theorem RoundTrip.cvtDS (fd : FReg) (fs : FReg) : RoundTrip.Statement (.cvtDS fd fs) := by
  intro _
  show decode (packR 0x11#6 0x10#5 0#5 (regBits fs) (regBits fd) 0x21#6) = _
  unfold decode
  rw [opcodeF_packR]
  show decodeCop1 _ = _
  unfold decodeCop1
  rw [subF_packR]
  show decodeFmtS _ = _
  unfold decodeFmtS
  rw [functF_packR]
  show Decoded.instr (.cvtDS (fdF _) (rdF _)) = _
  simp

theorem RoundTrip.cvtDW (fd : FReg) (fs : FReg) : RoundTrip.Statement (.cvtDW fd fs) := by
  intro _
  show decode (packR 0x11#6 0x14#5 0#5 (regBits fs) (regBits fd) 0x21#6) = _
  unfold decode
  rw [opcodeF_packR]
  show decodeCop1 _ = _
  unfold decodeCop1
  rw [subF_packR]
  show decodeFmtW _ = _
  unfold decodeFmtW
  rw [functF_packR]
  show Decoded.instr (.cvtDW (fdF _) (rdF _)) = _
  simp

theorem RoundTrip.cvtDL (fd : FReg) (fs : FReg) : RoundTrip.Statement (.cvtDL fd fs) := by
  intro _
  show decode (packR 0x11#6 0x15#5 0#5 (regBits fs) (regBits fd) 0x21#6) = _
  unfold decode
  rw [opcodeF_packR]
  show decodeCop1 _ = _
  unfold decodeCop1
  rw [subF_packR]
  show decodeFmtL _ = _
  unfold decodeFmtL
  rw [functF_packR]
  show Decoded.instr (.cvtDL (fdF _) (rdF _)) = _
  simp

theorem RoundTrip.cvtWS (fd : FReg) (fs : FReg) : RoundTrip.Statement (.cvtWS fd fs) := by
  intro _
  show decode (packR 0x11#6 0x10#5 0#5 (regBits fs) (regBits fd) 0x24#6) = _
  unfold decode
  rw [opcodeF_packR]
  show decodeCop1 _ = _
  unfold decodeCop1
  rw [subF_packR]
  show decodeFmtS _ = _
  unfold decodeFmtS
  rw [functF_packR]
  show Decoded.instr (.cvtWS (fdF _) (rdF _)) = _
  simp

theorem RoundTrip.cvtWD (fd : FReg) (fs : FReg) : RoundTrip.Statement (.cvtWD fd fs) := by
  intro _
  show decode (packR 0x11#6 0x11#5 0#5 (regBits fs) (regBits fd) 0x24#6) = _
  unfold decode
  rw [opcodeF_packR]
  show decodeCop1 _ = _
  unfold decodeCop1
  rw [subF_packR]
  show decodeFmtD _ = _
  unfold decodeFmtD
  rw [functF_packR]
  show Decoded.instr (.cvtWD (fdF _) (rdF _)) = _
  simp

theorem RoundTrip.cvtLS (fd : FReg) (fs : FReg) : RoundTrip.Statement (.cvtLS fd fs) := by
  intro _
  show decode (packR 0x11#6 0x10#5 0#5 (regBits fs) (regBits fd) 0x25#6) = _
  unfold decode
  rw [opcodeF_packR]
  show decodeCop1 _ = _
  unfold decodeCop1
  rw [subF_packR]
  show decodeFmtS _ = _
  unfold decodeFmtS
  rw [functF_packR]
  show Decoded.instr (.cvtLS (fdF _) (rdF _)) = _
  simp

theorem RoundTrip.cvtLD (fd : FReg) (fs : FReg) : RoundTrip.Statement (.cvtLD fd fs) := by
  intro _
  show decode (packR 0x11#6 0x11#5 0#5 (regBits fs) (regBits fd) 0x25#6) = _
  unfold decode
  rw [opcodeF_packR]
  show decodeCop1 _ = _
  unfold decodeCop1
  rw [subF_packR]
  show decodeFmtD _ = _
  unfold decodeFmtD
  rw [functF_packR]
  show Decoded.instr (.cvtLD (fdF _) (rdF _)) = _
  simp

theorem RoundTrip.cFS (fs : FReg) (ft : FReg) : RoundTrip.Statement (.cFS fs ft) := by
  intro _
  show decode (packR 0x11#6 0x10#5 (regBits ft) (regBits fs) 0#5 0x30#6) = _
  unfold decode
  rw [opcodeF_packR]
  show decodeCop1 _ = _
  unfold decodeCop1
  rw [subF_packR]
  show decodeFmtS _ = _
  unfold decodeFmtS
  rw [functF_packR]
  show Decoded.instr (.cFS (rdF _) (rtF _)) = _
  simp

theorem RoundTrip.cFD (fs : FReg) (ft : FReg) : RoundTrip.Statement (.cFD fs ft) := by
  intro _
  show decode (packR 0x11#6 0x11#5 (regBits ft) (regBits fs) 0#5 0x30#6) = _
  unfold decode
  rw [opcodeF_packR]
  show decodeCop1 _ = _
  unfold decodeCop1
  rw [subF_packR]
  show decodeFmtD _ = _
  unfold decodeFmtD
  rw [functF_packR]
  show Decoded.instr (.cFD (rdF _) (rtF _)) = _
  simp

theorem RoundTrip.cUnS (fs : FReg) (ft : FReg) : RoundTrip.Statement (.cUnS fs ft) := by
  intro _
  show decode (packR 0x11#6 0x10#5 (regBits ft) (regBits fs) 0#5 0x31#6) = _
  unfold decode
  rw [opcodeF_packR]
  show decodeCop1 _ = _
  unfold decodeCop1
  rw [subF_packR]
  show decodeFmtS _ = _
  unfold decodeFmtS
  rw [functF_packR]
  show Decoded.instr (.cUnS (rdF _) (rtF _)) = _
  simp

theorem RoundTrip.cUnD (fs : FReg) (ft : FReg) : RoundTrip.Statement (.cUnD fs ft) := by
  intro _
  show decode (packR 0x11#6 0x11#5 (regBits ft) (regBits fs) 0#5 0x31#6) = _
  unfold decode
  rw [opcodeF_packR]
  show decodeCop1 _ = _
  unfold decodeCop1
  rw [subF_packR]
  show decodeFmtD _ = _
  unfold decodeFmtD
  rw [functF_packR]
  show Decoded.instr (.cUnD (rdF _) (rtF _)) = _
  simp

theorem RoundTrip.cEqS (fs : FReg) (ft : FReg) : RoundTrip.Statement (.cEqS fs ft) := by
  intro _
  show decode (packR 0x11#6 0x10#5 (regBits ft) (regBits fs) 0#5 0x32#6) = _
  unfold decode
  rw [opcodeF_packR]
  show decodeCop1 _ = _
  unfold decodeCop1
  rw [subF_packR]
  show decodeFmtS _ = _
  unfold decodeFmtS
  rw [functF_packR]
  show Decoded.instr (.cEqS (rdF _) (rtF _)) = _
  simp

theorem RoundTrip.cEqD (fs : FReg) (ft : FReg) : RoundTrip.Statement (.cEqD fs ft) := by
  intro _
  show decode (packR 0x11#6 0x11#5 (regBits ft) (regBits fs) 0#5 0x32#6) = _
  unfold decode
  rw [opcodeF_packR]
  show decodeCop1 _ = _
  unfold decodeCop1
  rw [subF_packR]
  show decodeFmtD _ = _
  unfold decodeFmtD
  rw [functF_packR]
  show Decoded.instr (.cEqD (rdF _) (rtF _)) = _
  simp

theorem RoundTrip.cUeqS (fs : FReg) (ft : FReg) : RoundTrip.Statement (.cUeqS fs ft) := by
  intro _
  show decode (packR 0x11#6 0x10#5 (regBits ft) (regBits fs) 0#5 0x33#6) = _
  unfold decode
  rw [opcodeF_packR]
  show decodeCop1 _ = _
  unfold decodeCop1
  rw [subF_packR]
  show decodeFmtS _ = _
  unfold decodeFmtS
  rw [functF_packR]
  show Decoded.instr (.cUeqS (rdF _) (rtF _)) = _
  simp

theorem RoundTrip.cUeqD (fs : FReg) (ft : FReg) : RoundTrip.Statement (.cUeqD fs ft) := by
  intro _
  show decode (packR 0x11#6 0x11#5 (regBits ft) (regBits fs) 0#5 0x33#6) = _
  unfold decode
  rw [opcodeF_packR]
  show decodeCop1 _ = _
  unfold decodeCop1
  rw [subF_packR]
  show decodeFmtD _ = _
  unfold decodeFmtD
  rw [functF_packR]
  show Decoded.instr (.cUeqD (rdF _) (rtF _)) = _
  simp

theorem RoundTrip.cOltS (fs : FReg) (ft : FReg) : RoundTrip.Statement (.cOltS fs ft) := by
  intro _
  show decode (packR 0x11#6 0x10#5 (regBits ft) (regBits fs) 0#5 0x34#6) = _
  unfold decode
  rw [opcodeF_packR]
  show decodeCop1 _ = _
  unfold decodeCop1
  rw [subF_packR]
  show decodeFmtS _ = _
  unfold decodeFmtS
  rw [functF_packR]
  show Decoded.instr (.cOltS (rdF _) (rtF _)) = _
  simp

theorem RoundTrip.cOltD (fs : FReg) (ft : FReg) : RoundTrip.Statement (.cOltD fs ft) := by
  intro _
  show decode (packR 0x11#6 0x11#5 (regBits ft) (regBits fs) 0#5 0x34#6) = _
  unfold decode
  rw [opcodeF_packR]
  show decodeCop1 _ = _
  unfold decodeCop1
  rw [subF_packR]
  show decodeFmtD _ = _
  unfold decodeFmtD
  rw [functF_packR]
  show Decoded.instr (.cOltD (rdF _) (rtF _)) = _
  simp

theorem RoundTrip.cUltS (fs : FReg) (ft : FReg) : RoundTrip.Statement (.cUltS fs ft) := by
  intro _
  show decode (packR 0x11#6 0x10#5 (regBits ft) (regBits fs) 0#5 0x35#6) = _
  unfold decode
  rw [opcodeF_packR]
  show decodeCop1 _ = _
  unfold decodeCop1
  rw [subF_packR]
  show decodeFmtS _ = _
  unfold decodeFmtS
  rw [functF_packR]
  show Decoded.instr (.cUltS (rdF _) (rtF _)) = _
  simp

theorem RoundTrip.cUltD (fs : FReg) (ft : FReg) : RoundTrip.Statement (.cUltD fs ft) := by
  intro _
  show decode (packR 0x11#6 0x11#5 (regBits ft) (regBits fs) 0#5 0x35#6) = _
  unfold decode
  rw [opcodeF_packR]
  show decodeCop1 _ = _
  unfold decodeCop1
  rw [subF_packR]
  show decodeFmtD _ = _
  unfold decodeFmtD
  rw [functF_packR]
  show Decoded.instr (.cUltD (rdF _) (rtF _)) = _
  simp

theorem RoundTrip.cOleS (fs : FReg) (ft : FReg) : RoundTrip.Statement (.cOleS fs ft) := by
  intro _
  show decode (packR 0x11#6 0x10#5 (regBits ft) (regBits fs) 0#5 0x36#6) = _
  unfold decode
  rw [opcodeF_packR]
  show decodeCop1 _ = _
  unfold decodeCop1
  rw [subF_packR]
  show decodeFmtS _ = _
  unfold decodeFmtS
  rw [functF_packR]
  show Decoded.instr (.cOleS (rdF _) (rtF _)) = _
  simp

theorem RoundTrip.cOleD (fs : FReg) (ft : FReg) : RoundTrip.Statement (.cOleD fs ft) := by
  intro _
  show decode (packR 0x11#6 0x11#5 (regBits ft) (regBits fs) 0#5 0x36#6) = _
  unfold decode
  rw [opcodeF_packR]
  show decodeCop1 _ = _
  unfold decodeCop1
  rw [subF_packR]
  show decodeFmtD _ = _
  unfold decodeFmtD
  rw [functF_packR]
  show Decoded.instr (.cOleD (rdF _) (rtF _)) = _
  simp

theorem RoundTrip.cUleS (fs : FReg) (ft : FReg) : RoundTrip.Statement (.cUleS fs ft) := by
  intro _
  show decode (packR 0x11#6 0x10#5 (regBits ft) (regBits fs) 0#5 0x37#6) = _
  unfold decode
  rw [opcodeF_packR]
  show decodeCop1 _ = _
  unfold decodeCop1
  rw [subF_packR]
  show decodeFmtS _ = _
  unfold decodeFmtS
  rw [functF_packR]
  show Decoded.instr (.cUleS (rdF _) (rtF _)) = _
  simp

theorem RoundTrip.cUleD (fs : FReg) (ft : FReg) : RoundTrip.Statement (.cUleD fs ft) := by
  intro _
  show decode (packR 0x11#6 0x11#5 (regBits ft) (regBits fs) 0#5 0x37#6) = _
  unfold decode
  rw [opcodeF_packR]
  show decodeCop1 _ = _
  unfold decodeCop1
  rw [subF_packR]
  show decodeFmtD _ = _
  unfold decodeFmtD
  rw [functF_packR]
  show Decoded.instr (.cUleD (rdF _) (rtF _)) = _
  simp

theorem RoundTrip.cSfS (fs : FReg) (ft : FReg) : RoundTrip.Statement (.cSfS fs ft) := by
  intro _
  show decode (packR 0x11#6 0x10#5 (regBits ft) (regBits fs) 0#5 0x38#6) = _
  unfold decode
  rw [opcodeF_packR]
  show decodeCop1 _ = _
  unfold decodeCop1
  rw [subF_packR]
  show decodeFmtS _ = _
  unfold decodeFmtS
  rw [functF_packR]
  show Decoded.instr (.cSfS (rdF _) (rtF _)) = _
  simp

theorem RoundTrip.cSfD (fs : FReg) (ft : FReg) : RoundTrip.Statement (.cSfD fs ft) := by
  intro _
  show decode (packR 0x11#6 0x11#5 (regBits ft) (regBits fs) 0#5 0x38#6) = _
  unfold decode
  rw [opcodeF_packR]
  show decodeCop1 _ = _
  unfold decodeCop1
  rw [subF_packR]
  show decodeFmtD _ = _
  unfold decodeFmtD
  rw [functF_packR]
  show Decoded.instr (.cSfD (rdF _) (rtF _)) = _
  simp

theorem RoundTrip.cNgleS (fs : FReg) (ft : FReg) : RoundTrip.Statement (.cNgleS fs ft) := by
  intro _
  show decode (packR 0x11#6 0x10#5 (regBits ft) (regBits fs) 0#5 0x39#6) = _
  unfold decode
  rw [opcodeF_packR]
  show decodeCop1 _ = _
  unfold decodeCop1
  rw [subF_packR]
  show decodeFmtS _ = _
  unfold decodeFmtS
  rw [functF_packR]
  show Decoded.instr (.cNgleS (rdF _) (rtF _)) = _
  simp

theorem RoundTrip.cNgleD (fs : FReg) (ft : FReg) : RoundTrip.Statement (.cNgleD fs ft) := by
  intro _
  show decode (packR 0x11#6 0x11#5 (regBits ft) (regBits fs) 0#5 0x39#6) = _
  unfold decode
  rw [opcodeF_packR]
  show decodeCop1 _ = _
  unfold decodeCop1
  rw [subF_packR]
  show decodeFmtD _ = _
  unfold decodeFmtD
  rw [functF_packR]
  show Decoded.instr (.cNgleD (rdF _) (rtF _)) = _
  simp

theorem RoundTrip.cSeqS (fs : FReg) (ft : FReg) : RoundTrip.Statement (.cSeqS fs ft) := by
  intro _
  show decode (packR 0x11#6 0x10#5 (regBits ft) (regBits fs) 0#5 0x3A#6) = _
  unfold decode
  rw [opcodeF_packR]
  show decodeCop1 _ = _
  unfold decodeCop1
  rw [subF_packR]
  show decodeFmtS _ = _
  unfold decodeFmtS
  rw [functF_packR]
  show Decoded.instr (.cSeqS (rdF _) (rtF _)) = _
  simp

theorem RoundTrip.cSeqD (fs : FReg) (ft : FReg) : RoundTrip.Statement (.cSeqD fs ft) := by
  intro _
  show decode (packR 0x11#6 0x11#5 (regBits ft) (regBits fs) 0#5 0x3A#6) = _
  unfold decode
  rw [opcodeF_packR]
  show decodeCop1 _ = _
  unfold decodeCop1
  rw [subF_packR]
  show decodeFmtD _ = _
  unfold decodeFmtD
  rw [functF_packR]
  show Decoded.instr (.cSeqD (rdF _) (rtF _)) = _
  simp

theorem RoundTrip.cNglS (fs : FReg) (ft : FReg) : RoundTrip.Statement (.cNglS fs ft) := by
  intro _
  show decode (packR 0x11#6 0x10#5 (regBits ft) (regBits fs) 0#5 0x3B#6) = _
  unfold decode
  rw [opcodeF_packR]
  show decodeCop1 _ = _
  unfold decodeCop1
  rw [subF_packR]
  show decodeFmtS _ = _
  unfold decodeFmtS
  rw [functF_packR]
  show Decoded.instr (.cNglS (rdF _) (rtF _)) = _
  simp

theorem RoundTrip.cNglD (fs : FReg) (ft : FReg) : RoundTrip.Statement (.cNglD fs ft) := by
  intro _
  show decode (packR 0x11#6 0x11#5 (regBits ft) (regBits fs) 0#5 0x3B#6) = _
  unfold decode
  rw [opcodeF_packR]
  show decodeCop1 _ = _
  unfold decodeCop1
  rw [subF_packR]
  show decodeFmtD _ = _
  unfold decodeFmtD
  rw [functF_packR]
  show Decoded.instr (.cNglD (rdF _) (rtF _)) = _
  simp

theorem RoundTrip.cLtS (fs : FReg) (ft : FReg) : RoundTrip.Statement (.cLtS fs ft) := by
  intro _
  show decode (packR 0x11#6 0x10#5 (regBits ft) (regBits fs) 0#5 0x3C#6) = _
  unfold decode
  rw [opcodeF_packR]
  show decodeCop1 _ = _
  unfold decodeCop1
  rw [subF_packR]
  show decodeFmtS _ = _
  unfold decodeFmtS
  rw [functF_packR]
  show Decoded.instr (.cLtS (rdF _) (rtF _)) = _
  simp

theorem RoundTrip.cLtD (fs : FReg) (ft : FReg) : RoundTrip.Statement (.cLtD fs ft) := by
  intro _
  show decode (packR 0x11#6 0x11#5 (regBits ft) (regBits fs) 0#5 0x3C#6) = _
  unfold decode
  rw [opcodeF_packR]
  show decodeCop1 _ = _
  unfold decodeCop1
  rw [subF_packR]
  show decodeFmtD _ = _
  unfold decodeFmtD
  rw [functF_packR]
  show Decoded.instr (.cLtD (rdF _) (rtF _)) = _
  simp

theorem RoundTrip.cNgeS (fs : FReg) (ft : FReg) : RoundTrip.Statement (.cNgeS fs ft) := by
  intro _
  show decode (packR 0x11#6 0x10#5 (regBits ft) (regBits fs) 0#5 0x3D#6) = _
  unfold decode
  rw [opcodeF_packR]
  show decodeCop1 _ = _
  unfold decodeCop1
  rw [subF_packR]
  show decodeFmtS _ = _
  unfold decodeFmtS
  rw [functF_packR]
  show Decoded.instr (.cNgeS (rdF _) (rtF _)) = _
  simp

theorem RoundTrip.cNgeD (fs : FReg) (ft : FReg) : RoundTrip.Statement (.cNgeD fs ft) := by
  intro _
  show decode (packR 0x11#6 0x11#5 (regBits ft) (regBits fs) 0#5 0x3D#6) = _
  unfold decode
  rw [opcodeF_packR]
  show decodeCop1 _ = _
  unfold decodeCop1
  rw [subF_packR]
  show decodeFmtD _ = _
  unfold decodeFmtD
  rw [functF_packR]
  show Decoded.instr (.cNgeD (rdF _) (rtF _)) = _
  simp

theorem RoundTrip.cLeS (fs : FReg) (ft : FReg) : RoundTrip.Statement (.cLeS fs ft) := by
  intro _
  show decode (packR 0x11#6 0x10#5 (regBits ft) (regBits fs) 0#5 0x3E#6) = _
  unfold decode
  rw [opcodeF_packR]
  show decodeCop1 _ = _
  unfold decodeCop1
  rw [subF_packR]
  show decodeFmtS _ = _
  unfold decodeFmtS
  rw [functF_packR]
  show Decoded.instr (.cLeS (rdF _) (rtF _)) = _
  simp

theorem RoundTrip.cLeD (fs : FReg) (ft : FReg) : RoundTrip.Statement (.cLeD fs ft) := by
  intro _
  show decode (packR 0x11#6 0x11#5 (regBits ft) (regBits fs) 0#5 0x3E#6) = _
  unfold decode
  rw [opcodeF_packR]
  show decodeCop1 _ = _
  unfold decodeCop1
  rw [subF_packR]
  show decodeFmtD _ = _
  unfold decodeFmtD
  rw [functF_packR]
  show Decoded.instr (.cLeD (rdF _) (rtF _)) = _
  simp

theorem RoundTrip.cNgtS (fs : FReg) (ft : FReg) : RoundTrip.Statement (.cNgtS fs ft) := by
  intro _
  show decode (packR 0x11#6 0x10#5 (regBits ft) (regBits fs) 0#5 0x3F#6) = _
  unfold decode
  rw [opcodeF_packR]
  show decodeCop1 _ = _
  unfold decodeCop1
  rw [subF_packR]
  show decodeFmtS _ = _
  unfold decodeFmtS
  rw [functF_packR]
  show Decoded.instr (.cNgtS (rdF _) (rtF _)) = _
  simp

theorem RoundTrip.cNgtD (fs : FReg) (ft : FReg) : RoundTrip.Statement (.cNgtD fs ft) := by
  intro _
  show decode (packR 0x11#6 0x11#5 (regBits ft) (regBits fs) 0#5 0x3F#6) = _
  unfold decode
  rw [opcodeF_packR]
  show decodeCop1 _ = _
  unfold decodeCop1
  rw [subF_packR]
  show decodeFmtD _ = _
  unfold decodeFmtD
  rw [functF_packR]
  show Decoded.instr (.cNgtD (rdF _) (rtF _)) = _
  simp

end Sys2Proof.Laws
end

