-- ==== Sys2Proof/Tests/Slice0.lean ====
section
/-! SUPPORT. Tests: the checks of well-formedness, decoding of the spec's words, the values of the rules'
examples, and for every obligation a state and operands that meet its hypotheses. -/

set_option Elab.async false

namespace Sys2Proof.Machine

/-! ## Well-formedness: one ill-formed term for each check -/

theorem test_wellformed_refuses :
    ([Instr.sll 1 2 32, .srl 1 2 32, .sra 1 2 32, .dsll 1 2 32, .dsrl 1 2 32, .dsra 1 2 32, .dsll32 1 2 32,
        .dsrl32 1 2 32, .dsra32 1 2 32, .tge 1 2 1024, .tgeu 1 2 1024, .tlt 1 2 1024, .tltu 1 2 1024,
        .teq 1 2 1024, .tne 1 2 1024, .syscall 1048576, .breakI 1048576, .cache 32 1 0#16,
        .cop2 67108864].all fun i => !WellFormed i) = true := by decide

theorem test_wellformed_accepts :
    ([Instr.sll 1 2 31, .dsra32 1 2 31, .tge 1 2 1023, .syscall 1048575, .breakI 1048575, .cache 31 1 0#16,
        .cop2 67108863, .add 31 31 31].all WellFormed) = true := by decide

/-! ## Decoding: the words of the rules' examples, and, for the computational floating-point instructions, whose
rules give no word, the fields of spec/30_encoding.md R189 written out with fd 3, fs 1, ft 2 -/

/-- Every word decodes to the instruction beside it. -/
def decodes (l : List (Word × Instr)) : Bool := l.all fun p => decide (decode p.1 = .instr p.2)

theorem test_decode_integer_alu : decodes [
    (0x00221820#32, .add 3 1 2), (0x00221821#32, .addu 3 1 2), (0x00221822#32, .sub 3 1 2),
    (0x00221823#32, .subu 3 1 2), (0x0022182C#32, .dadd 3 1 2), (0x0022182D#32, .daddu 3 1 2),
    (0x0022182E#32, .dsub 3 1 2), (0x0022182F#32, .dsubu 3 1 2), (0x00221824#32, .and 3 1 2),
    (0x00221825#32, .or 3 1 2), (0x00221826#32, .xor 3 1 2), (0x00221827#32, .nor 3 1 2),
    (0x0022182A#32, .slt 3 1 2), (0x0022182B#32, .sltu 3 1 2), (0x2022FFFC#32, .addi 2 1 0xFFFC#16),
    (0x2422FFFC#32, .addiu 2 1 0xFFFC#16), (0x60220001#32, .daddi 2 1 0x1#16),
    (0x6422FFFF#32, .daddiu 2 1 0xFFFF#16), (0x2822FFFF#32, .slti 2 1 0xFFFF#16),
    (0x2C22FFFF#32, .sltiu 2 1 0xFFFF#16), (0x30228001#32, .andi 2 1 0x8001#16), (0x34228001#32, .ori 2 1 0x8001#16),
    (0x3822FFFF#32, .xori 2 1 0xFFFF#16), (0x3C021234#32, .lui 2 0x1234#16)] = true := by decide +kernel

theorem test_decode_shifts : decodes [
    (0x00021900#32, .sll 3 2 4), (0x00021902#32, .srl 3 2 4), (0x00021903#32, .sra 3 2 4),
    (0x00221804#32, .sllv 3 2 1), (0x00221806#32, .srlv 3 2 1), (0x00221807#32, .srav 3 2 1),
    (0x00021938#32, .dsll 3 2 4), (0x0002193A#32, .dsrl 3 2 4), (0x0002193B#32, .dsra 3 2 4),
    (0x0002183C#32, .dsll32 3 2 0), (0x0002183E#32, .dsrl32 3 2 0), (0x0002183F#32, .dsra32 3 2 0),
    (0x00221814#32, .dsllv 3 2 1), (0x00221816#32, .dsrlv 3 2 1), (0x00221817#32, .dsrav 3 2 1)] = true := by decide +kernel

theorem test_decode_muldiv : decodes [
    (0x00220018#32, .mult 1 2), (0x00220019#32, .multu 1 2), (0x0022001A#32, .div 1 2), (0x0022001B#32, .divu 1 2),
    (0x0022001C#32, .dmult 1 2), (0x0022001D#32, .dmultu 1 2), (0x0022001E#32, .ddiv 1 2),
    (0x0022001F#32, .ddivu 1 2), (0x00001810#32, .mfhi 3), (0x00200011#32, .mthi 1), (0x00001812#32, .mflo 3),
    (0x00200013#32, .mtlo 1)] = true := by decide +kernel

theorem test_decode_branch_jump : decodes [
    (0x08000400#32, .j 0x0000400#26), (0x0C000400#32, .jal 0x0000400#26), (0x03E00008#32, .jr 31),
    (0x0320F809#32, .jalr 31 25), (0x10220003#32, .beq 1 2 0x3#16), (0x1420FFFE#32, .bne 1 0 0xFFFE#16),
    (0x18200004#32, .blez 1 0x4#16), (0x1C200004#32, .bgtz 1 0x4#16), (0x50220003#32, .beql 1 2 0x3#16),
    (0x54220003#32, .bnel 1 2 0x3#16), (0x58200004#32, .blezl 1 0x4#16), (0x5C200004#32, .bgtzl 1 0x4#16),
    (0x04200004#32, .bltz 1 0x4#16), (0x04210004#32, .bgez 1 0x4#16), (0x04220004#32, .bltzl 1 0x4#16),
    (0x04230004#32, .bgezl 1 0x4#16), (0x04300004#32, .bltzal 1 0x4#16), (0x04110004#32, .bgezal 0 0x4#16),
    (0x04320004#32, .bltzall 1 0x4#16), (0x04330004#32, .bgezall 1 0x4#16)] = true := by decide +kernel

theorem test_decode_load_store : decodes [
    (0x80220007#32, .lb 2 1 0x7#16), (0x90220007#32, .lbu 2 1 0x7#16), (0x84220006#32, .lh 2 1 0x6#16),
    (0x94220006#32, .lhu 2 1 0x6#16), (0x8C220004#32, .lw 2 1 0x4#16), (0x9C220004#32, .lwu 2 1 0x4#16),
    (0xDC220000#32, .ld 2 1 0x0#16), (0xA0220001#32, .sb 2 1 0x1#16), (0xA4220002#32, .sh 2 1 0x2#16),
    (0xAC220004#32, .sw 2 1 0x4#16), (0xFC220000#32, .sd 2 1 0x0#16), (0x88220001#32, .lwl 2 1 0x1#16),
    (0x98220001#32, .lwr 2 1 0x1#16), (0xA8220001#32, .swl 2 1 0x1#16), (0xB8220001#32, .swr 2 1 0x1#16),
    (0x68220003#32, .ldl 2 1 0x3#16), (0x6C220003#32, .ldr 2 1 0x3#16), (0xB0220003#32, .sdl 2 1 0x3#16),
    (0xB4220003#32, .sdr 2 1 0x3#16), (0xC0220004#32, .ll 2 1 0x4#16), (0xD0220000#32, .lld 2 1 0x0#16),
    (0xE0220004#32, .sc 2 1 0x4#16), (0xF0220000#32, .scd 2 1 0x0#16)] = true := by decide +kernel

theorem test_decode_trap_system : decodes [
    (0x00220030#32, .tge 1 2 0), (0x00220031#32, .tgeu 1 2 0), (0x00220032#32, .tlt 1 2 0),
    (0x00220033#32, .tltu 1 2 0), (0x00220034#32, .teq 1 2 0), (0x00220036#32, .tne 1 2 0),
    (0x0428FFFF#32, .tgei 1 0xFFFF#16), (0x0429FFFF#32, .tgeiu 1 0xFFFF#16), (0x042A0000#32, .tlti 1 0x0#16),
    (0x042B0001#32, .tltiu 1 0x1#16), (0x042CFFFF#32, .teqi 1 0xFFFF#16), (0x042E0005#32, .tnei 1 0x5#16),
    (0x0000000C#32, .syscall 0), (0x0000000D#32, .breakI 0), (0x0000000F#32, .sync),
    (0xBC940000#32, .cache 20 4 0x0#16)] = true := by decide +kernel

theorem test_decode_cp0_tlb : decodes [
    (0x40026000#32, .mfc0 2 12), (0x40227000#32, .dmfc0 2 14), (0x40826000#32, .mtc0 2 12),
    (0x40A25000#32, .dmtc0 2 10), (0x42000001#32, .tlbr), (0x42000002#32, .tlbwi), (0x42000006#32, .tlbwr),
    (0x42000008#32, .tlbp), (0x42000018#32, .eret), (0x48000000#32, .cop2 0), (0xC8220000#32, .lwc2 2 1 0x0#16),
    (0xD8220000#32, .ldc2 2 1 0x0#16), (0xE8220000#32, .swc2 2 1 0x0#16), (0xF8220000#32, .sdc2 2 1 0x0#16)] = true := by decide +kernel

theorem test_decode_fpu_basic : decodes [
    (0x44020800#32, .mfc1 2 1), (0x44221000#32, .dmfc1 2 2), (0x4442F800#32, .cfc1 2 31), (0x44820800#32, .mtc1 2 1),
    (0x44A21000#32, .dmtc1 2 2), (0x44C2F800#32, .ctc1 2 31), (0x45000004#32, .bc1f 0x4#16),
    (0x45010004#32, .bc1t 0x4#16), (0x45020004#32, .bc1fl 0x4#16), (0x45030004#32, .bc1tl 0x4#16),
    (0xC4220004#32, .lwc1 2 1 0x4#16), (0xD4220000#32, .ldc1 2 1 0x0#16), (0xE4220004#32, .swc1 2 1 0x4#16),
    (0xF4220000#32, .sdc1 2 1 0x0#16)] = true := by decide +kernel

theorem test_decode_fpu_arith_1 : decodes [
    (0x460208C0#32, .addS 3 1 2), (0x462208C0#32, .addD 3 1 2), (0x460208C1#32, .subS 3 1 2),
    (0x462208C1#32, .subD 3 1 2), (0x460208C2#32, .mulS 3 1 2), (0x462208C2#32, .mulD 3 1 2),
    (0x460208C3#32, .divS 3 1 2), (0x462208C3#32, .divD 3 1 2), (0x460008C4#32, .sqrtS 3 1),
    (0x462008C4#32, .sqrtD 3 1), (0x460008C5#32, .absS 3 1), (0x462008C5#32, .absD 3 1), (0x460008C6#32, .movS 3 1),
    (0x462008C6#32, .movD 3 1), (0x460008C7#32, .negS 3 1), (0x462008C7#32, .negD 3 1),
    (0x460008C8#32, .roundLS 3 1), (0x462008C8#32, .roundLD 3 1), (0x460008C9#32, .truncLS 3 1),
    (0x462008C9#32, .truncLD 3 1), (0x460008CA#32, .ceilLS 3 1), (0x462008CA#32, .ceilLD 3 1),
    (0x460008CB#32, .floorLS 3 1), (0x462008CB#32, .floorLD 3 1), (0x460008CC#32, .roundWS 3 1),
    (0x462008CC#32, .roundWD 3 1), (0x460008CD#32, .truncWS 3 1), (0x462008CD#32, .truncWD 3 1)] = true := by decide +kernel

theorem test_decode_fpu_arith_2 : decodes [
    (0x460008CE#32, .ceilWS 3 1), (0x462008CE#32, .ceilWD 3 1), (0x460008CF#32, .floorWS 3 1),
    (0x462008CF#32, .floorWD 3 1), (0x462008E0#32, .cvtSD 3 1), (0x468008E0#32, .cvtSW 3 1),
    (0x46A008E0#32, .cvtSL 3 1), (0x460008E1#32, .cvtDS 3 1), (0x468008E1#32, .cvtDW 3 1),
    (0x46A008E1#32, .cvtDL 3 1), (0x460008E4#32, .cvtWS 3 1), (0x462008E4#32, .cvtWD 3 1),
    (0x460008E5#32, .cvtLS 3 1), (0x462008E5#32, .cvtLD 3 1)] = true := by decide +kernel

theorem test_decode_fpu_compare_1 : decodes [
    (0x46020830#32, .cFS 1 2), (0x46220830#32, .cFD 1 2), (0x46020831#32, .cUnS 1 2), (0x46220831#32, .cUnD 1 2),
    (0x46020832#32, .cEqS 1 2), (0x46220832#32, .cEqD 1 2), (0x46020833#32, .cUeqS 1 2), (0x46220833#32, .cUeqD 1 2),
    (0x46020834#32, .cOltS 1 2), (0x46220834#32, .cOltD 1 2), (0x46020835#32, .cUltS 1 2),
    (0x46220835#32, .cUltD 1 2), (0x46020836#32, .cOleS 1 2), (0x46220836#32, .cOleD 1 2),
    (0x46020837#32, .cUleS 1 2), (0x46220837#32, .cUleD 1 2), (0x46020838#32, .cSfS 1 2), (0x46220838#32, .cSfD 1 2),
    (0x46020839#32, .cNgleS 1 2), (0x46220839#32, .cNgleD 1 2), (0x4602083A#32, .cSeqS 1 2),
    (0x4622083A#32, .cSeqD 1 2), (0x4602083B#32, .cNglS 1 2), (0x4622083B#32, .cNglD 1 2),
    (0x4602083C#32, .cLtS 1 2), (0x4622083C#32, .cLtD 1 2), (0x4602083D#32, .cNgeS 1 2), (0x4622083D#32, .cNgeD 1 2)] = true := by decide +kernel

theorem test_decode_fpu_compare_2 : decodes [
    (0x4602083E#32, .cLeS 1 2), (0x4622083E#32, .cLeD 1 2), (0x4602083F#32, .cNgtS 1 2), (0x4622083F#32, .cNgtD 1 2)] = true := by decide +kernel

/-! ## Effects: the values of the rules' examples -/

/-- Reset, with `x[1]` and `x[2]` given, at the pc of the branch examples. -/
def two (a b : DWord) : State :=
  { State.reset with x := (State.reset.x.set 1 a).set 2 b, pc := 0xFFFFFFFF80001000#64 }

/-- `Execute` of a word, without the end of the step. -/
def run (w : Word) (s : State) : Result :=
  match decode w with
  | .instr i => exec i s
  | .reserved k => execReserved k s

/-- The result is a next state with the property. -/
def gives (r : Result) (p : State → Bool) : Bool :=
  match r with
  | .next t => p t
  | _ => false

/-- The word writes the value to the register: `x[1]`, `x[2]`, destination, value. -/
def writes (l : List (Word × DWord × DWord × Reg × DWord)) : Bool :=
  l.all fun (w, a, b, d, v) => gives (run w (two a b)) fun t => decide (t.getX d = v) && decide (t.bstate = .none)

/-- The word takes an exception with the code, and writes no general register. -/
def raises (w : Word) (s : State) (c : ExcCode) : Bool :=
  gives (run w s) fun t =>
    decide (t.bstate = .exception) && decide (t.cp0.cause.extractLsb' 2 5 = excNumber c) && decide (t.x = s.x)

theorem test_integer_alu : writes [
    (0x00221820#32, 0x7FFFFFFE#64, 0x1#64, 3, 0x7FFFFFFF#64),
    (0x00221821#32, 0x7FFFFFFF#64, 0x1#64, 3, 0xFFFFFFFF80000000#64),
    (0x00221821#32, 0x0000000100000005#64, 0x1#64, 3, 0x6#64),
    (0x00221822#32, 0x5#64, 0x7#64, 3, 0xFFFFFFFFFFFFFFFE#64),
    (0x00221823#32, 0xFFFFFFFF80000000#64, 0x1#64, 3, 0x7FFFFFFF#64),
    (0x0022182C#32, 0x7FFFFFFF#64, 0x1#64, 3, 0x80000000#64),
    (0x0022182D#32, 0x7FFFFFFFFFFFFFFF#64, 0x1#64, 3, 0x8000000000000000#64),
    (0x0022182E#32, 0x0#64, 0x1#64, 3, 0xFFFFFFFFFFFFFFFF#64),
    (0x0022182F#32, 0x8000000000000000#64, 0x1#64, 3, 0x7FFFFFFFFFFFFFFF#64),
    (0x00221824#32, 0xFFFF0000FF00F0F0#64, 0x0F0F0F0F33333333#64, 3, 0x0F0F000033003030#64),
    (0x00221825#32, 0xFFFF0000FF00F0F0#64, 0x0F0F0F0F33333333#64, 3, 0xFFFF0F0FFF33F3F3#64),
    (0x00221826#32, 0xFFFF0000FF00F0F0#64, 0x0F0F0F0F33333333#64, 3, 0xF0F00F0FCC33C3C3#64),
    (0x00221827#32, 0xFFFF0000FF00F0F0#64, 0x0F0F0F0F33333333#64, 3, 0x0000F0F000CC0C0C#64),
    (0x0022182A#32, 0xFFFFFFFFFFFFFFFF#64, 0x1#64, 3, 0x1#64), (0x0022182A#32, 0x80000000#64, 0x0#64, 3, 0x0#64),
    (0x0022182B#32, 0xFFFFFFFFFFFFFFFF#64, 0x1#64, 3, 0x0#64), (0x2022FFFC#32, 0xA#64, 0x0#64, 2, 0x6#64),
    (0x2422FFFC#32, 0x2#64, 0x0#64, 2, 0xFFFFFFFFFFFFFFFE#64),
    (0x60220001#32, 0xFFFFFFFF#64, 0x0#64, 2, 0x100000000#64),
    (0x6422FFFF#32, 0x0#64, 0x0#64, 2, 0xFFFFFFFFFFFFFFFF#64),
    (0x2822FFFF#32, 0xFFFFFFFFFFFFFFFB#64, 0x0#64, 2, 0x1#64), (0x2C22FFFF#32, 0x5#64, 0x0#64, 2, 0x1#64),
    (0x30228001#32, 0xFFFFFFFFFFFFFFFF#64, 0x0#64, 2, 0x8001#64), (0x34228001#32, 0x10000#64, 0x0#64, 2, 0x18001#64),
    (0x3822FFFF#32, 0x12345678#64, 0x0#64, 2, 0x1234A987#64), (0x3C021234#32, 0x0#64, 0x0#64, 2, 0x12340000#64)] = true := by decide +kernel

theorem test_shifts : writes [
    (0x00021900#32, 0x0#64, 0x0000000180000001#64, 3, 0x10#64),
    (0x00021900#32, 0x0#64, 0x08000000#64, 3, 0xFFFFFFFF80000000#64),
    (0x00021902#32, 0x0#64, 0xFFFFFFFF80000010#64, 3, 0x08000001#64),
    (0x00021903#32, 0x0#64, 0xFFFFFFFF80000010#64, 3, 0xFFFFFFFFF8000001#64),
    (0x00221804#32, 0x21#64, 0x1#64, 3, 0x2#64),
    (0x00221806#32, 0x20#64, 0xFFFFFFFF80000000#64, 3, 0xFFFFFFFF80000000#64),
    (0x00221807#32, 0x1F#64, 0xFFFFFFFF80000000#64, 3, 0xFFFFFFFFFFFFFFFF#64),
    (0x00021938#32, 0x0#64, 0x8000000000000001#64, 3, 0x10#64),
    (0x0002193A#32, 0x0#64, 0x8000000000000001#64, 3, 0x0800000000000000#64),
    (0x0002193B#32, 0x0#64, 0x8000000000000001#64, 3, 0xF800000000000000#64),
    (0x0002183C#32, 0x0#64, 0x12345678#64, 3, 0x1234567800000000#64),
    (0x0002183E#32, 0x0#64, 0x89ABCDEF00000000#64, 3, 0x89ABCDEF#64),
    (0x0002183F#32, 0x0#64, 0x89ABCDEF00000000#64, 3, 0xFFFFFFFF89ABCDEF#64),
    (0x00221814#32, 0x3F#64, 0x1#64, 3, 0x8000000000000000#64), (0x00221814#32, 0x40#64, 0x1#64, 3, 0x1#64),
    (0x00221816#32, 0x3F#64, 0x8000000000000001#64, 3, 0x1#64),
    (0x00221817#32, 0x3F#64, 0x8000000000000001#64, 3, 0xFFFFFFFFFFFFFFFF#64)] = true := by decide +kernel

theorem test_integer_overflow :
    (raises 0x00221820#32 (two 0x7FFFFFFE#64 2#64) .ov && raises 0x00221822#32 (two 0xFFFFFFFF80000000#64 1#64) .ov &&
      raises 0x0022182C#32 (two 0x7FFFFFFFFFFFFFFF#64 1#64) .ov &&
      raises 0x0022182E#32 (two 0x8000000000000000#64 1#64) .ov && raises 0x20220001#32 (two 0x7FFFFFFF#64 0#64) .ov &&
      raises 0x60220001#32 (two 0x7FFFFFFFFFFFFFFF#64 0#64) .ov) = true := by decide +kernel

/-- The word leaves HI and LO: `x[1]`, `x[2]`, HI, LO; both hold 7 before. -/
def hilo (l : List (Word × DWord × DWord × DWord × DWord)) : Bool :=
  l.all fun (w, a, b, h, o) =>
    gives (run w { two a b with hi := 7#64, lo := 7#64 }) fun t => decide (t.hi = h) && decide (t.lo = o)

theorem test_muldiv : hilo [
    (0x00220018#32, 0xFFFFFFFFFFFFFFFF#64, 0x2#64, 0xFFFFFFFFFFFFFFFF#64, 0xFFFFFFFFFFFFFFFE#64),
    (0x00220018#32, 0x7FFFFFFF#64, 0x7FFFFFFF#64, 0x3FFFFFFF#64, 0x1#64),
    (0x00220019#32, 0xFFFFFFFFFFFFFFFF#64, 0x2#64, 0x1#64, 0xFFFFFFFFFFFFFFFE#64),
    (0x0022001A#32, 0xFFFFFFFFFFFFFFF9#64, 0x2#64, 0xFFFFFFFFFFFFFFFF#64, 0xFFFFFFFFFFFFFFFD#64),
    (0x0022001A#32, 0x80000000#64, 0xFFFFFFFFFFFFFFFF#64, 0x0#64, 0xFFFFFFFF80000000#64),
    (0x0022001A#32, 0x5#64, 0x0#64, 0x7#64, 0x7#64),
    (0x0022001B#32, 0xFFFFFFFFFFFFFFFF#64, 0x2#64, 0x1#64, 0x7FFFFFFF#64),
    (0x0022001B#32, 0xFFFFFFFFFFFFFFFF#64, 0x1#64, 0x0#64, 0xFFFFFFFFFFFFFFFF#64),
    (0x0022001C#32, 0xFFFFFFFFFFFFFFFE#64, 0x3#64, 0xFFFFFFFFFFFFFFFF#64, 0xFFFFFFFFFFFFFFFA#64),
    (0x0022001D#32, 0xFFFFFFFFFFFFFFFE#64, 0x3#64, 0x2#64, 0xFFFFFFFFFFFFFFFA#64),
    (0x0022001E#32, 0x7#64, 0xFFFFFFFFFFFFFFFE#64, 0x1#64, 0xFFFFFFFFFFFFFFFD#64),
    (0x0022001E#32, 0x7#64, 0x0#64, 0x7#64, 0x7#64),
    (0x0022001F#32, 0xFFFFFFFFFFFFFFFF#64, 0x10#64, 0xF#64, 0x0FFFFFFFFFFFFFFF#64),
    (0x00200011#32, 0x123456789ABCDEF0#64, 0x0#64, 0x123456789ABCDEF0#64, 0x7#64),
    (0x00200013#32, 0x5#64, 0x0#64, 0x7#64, 0x5#64)] = true := by decide +kernel

/-- The word leaves the sequencer: `x[1]`, `x[2]`, bstate, btarget. -/
def branches (l : List (Word × DWord × DWord × BState × DWord)) : Bool :=
  l.all fun (w, a, b, q, g) =>
    gives (run w (two a b)) fun t =>
      decide (t.bstate = q) && decide (t.btarget = g) && decide (t.pc = 0xFFFFFFFF80001000#64)

theorem test_branches : branches [
    (0x08000400#32, 0x0#64, 0x0#64, .branch, 0xFFFFFFFF80001000#64),
    (0x10220003#32, 0x5#64, 0x5#64, .branch, 0xFFFFFFFF80001010#64), (0x10220003#32, 0x5#64, 0x6#64, .none, 0x0#64),
    (0x1420FFFE#32, 0x1#64, 0x0#64, .branch, 0xFFFFFFFF80000FFC#64),
    (0x18200004#32, 0x0#64, 0x0#64, .branch, 0xFFFFFFFF80001014#64), (0x18200004#32, 0x1#64, 0x0#64, .none, 0x0#64),
    (0x1C200004#32, 0x1#64, 0x0#64, .branch, 0xFFFFFFFF80001014#64),
    (0x1C200004#32, 0x8000000000000000#64, 0x0#64, .none, 0x0#64),
    (0x50220003#32, 0x5#64, 0x5#64, .branch, 0xFFFFFFFF80001010#64),
    (0x50220003#32, 0x5#64, 0x6#64, .nullify, 0x0#64),
    (0x54220003#32, 0x5#64, 0x6#64, .branch, 0xFFFFFFFF80001010#64),
    (0x54220003#32, 0x5#64, 0x5#64, .nullify, 0x0#64),
    (0x58200004#32, 0x0#64, 0x0#64, .branch, 0xFFFFFFFF80001014#64),
    (0x58200004#32, 0x1#64, 0x0#64, .nullify, 0x0#64),
    (0x5C200004#32, 0x1#64, 0x0#64, .branch, 0xFFFFFFFF80001014#64),
    (0x5C200004#32, 0x0#64, 0x0#64, .nullify, 0x0#64),
    (0x04200004#32, 0xFFFFFFFFFFFFFFFF#64, 0x0#64, .branch, 0xFFFFFFFF80001014#64),
    (0x04200004#32, 0x80000000#64, 0x0#64, .none, 0x0#64),
    (0x04210004#32, 0x0#64, 0x0#64, .branch, 0xFFFFFFFF80001014#64),
    (0x04210004#32, 0xFFFFFFFFFFFFFFFF#64, 0x0#64, .none, 0x0#64),
    (0x04220004#32, 0xFFFFFFFFFFFFFFFF#64, 0x0#64, .branch, 0xFFFFFFFF80001014#64),
    (0x04220004#32, 0x0#64, 0x0#64, .nullify, 0x0#64),
    (0x04230004#32, 0x0#64, 0x0#64, .branch, 0xFFFFFFFF80001014#64),
    (0x04230004#32, 0xFFFFFFFFFFFFFFFF#64, 0x0#64, .nullify, 0x0#64)] = true := by decide +kernel

/-- The link instructions: `x[31]` written, taken or not; JALR and BGEZAL read the old register (R323). -/
theorem test_links :
    ([(0x0C000400#32, two 0#64 0#64, BState.branch, 0xFFFFFFFF80001000#64),
        (0x04300004#32, two 0xFFFFFFFFFFFFFFFF#64 0#64, .branch, 0xFFFFFFFF80001014#64),
        (0x04300004#32, two 0#64 0#64, .none, 0#64), (0x04110004#32, two 0#64 0#64, .branch, 0xFFFFFFFF80001014#64),
        (0x04320004#32, two 0#64 0#64, .nullify, 0#64),
        (0x04330004#32, two 0xFFFFFFFFFFFFFFFF#64 0#64, .nullify, 0#64),
        (0x03E0F809#32, { two 0#64 0#64 with x := State.reset.x.set 31 0x80002000#64 }, .branch,
          0xFFFFFFFF80002000#64)].all fun (w, s, q, g) =>
      gives (run w s) fun t =>
        decide (t.getX 31 = 0xFFFFFFFF80001008#64) && decide (t.bstate = q) && decide (t.btarget = g)) = true := by
  decide +kernel

/-- The memory of R364, in the byte order given, with `x[1]` at kseg0 0x100 and `x[2]`. -/
def memory (be : Bool) (v : DWord) : State :=
  { two 0xFFFFFFFF80000100#64 v with
    params := { Params.default with bigEndian := be }
    mem := Memory.writeCells [] [(0x100, 0x11#8), (0x101, 0x22#8), (0x102, 0x33#8), (0x103, 0x44#8), (0x104, 0x55#8),
      (0x105, 0x66#8), (0x106, 0x77#8), (0x107, 0x88#8)] }

/-- The word loads into `x[2]`: `x[2]` before, the value big-endian, the value little-endian. -/
def loads (l : List (Word × DWord × DWord × DWord)) : Bool :=
  l.all fun (w, v, b, e) =>
    (gives (run w (memory true v)) fun t => decide (t.getX 2 = b)) &&
      (gives (run w (memory false v)) fun t => decide (t.getX 2 = e))

theorem test_loads : loads [
    (0x80220007#32, 0x0#64, 0xFFFFFFFFFFFFFF88#64, 0xFFFFFFFFFFFFFF88#64), (0x90220007#32, 0x0#64, 0x88#64, 0x88#64),
    (0x84220006#32, 0x0#64, 0x7788#64, 0xFFFFFFFFFFFF8877#64), (0x94220006#32, 0x0#64, 0x7788#64, 0x8877#64),
    (0x8C220004#32, 0x0#64, 0x55667788#64, 0xFFFFFFFF88776655#64),
    (0x9C220004#32, 0x0#64, 0x55667788#64, 0x88776655#64),
    (0xDC220000#32, 0x0#64, 0x1122334455667788#64, 0x8877665544332211#64),
    (0x88220001#32, 0xFFFFFFFFAABBCCDD#64, 0x223344DD#64, 0x2211CCDD#64),
    (0x98220001#32, 0xFFFFFFFFAABBCCDD#64, 0xFFFFFFFFAABB1122#64, 0xFFFFFFFFAA443322#64),
    (0x68220003#32, 0xA1A2A3A4A5A6A7A8#64, 0x4455667788A6A7A8#64, 0x44332211A5A6A7A8#64),
    (0x6C220003#32, 0xA1A2A3A4A5A6A7A8#64, 0xA1A2A3A411223344#64, 0xA1A2A38877665544#64),
    (0xC0220004#32, 0x0#64, 0x55667788#64, 0xFFFFFFFF88776655#64),
    (0xD0220000#32, 0x0#64, 0x1122334455667788#64, 0x8877665544332211#64)] = true := by decide +kernel

/-- The eight bytes at 0x100, the first the most significant. -/
def eight (t : State) : DWord := memRead true t.mem 0x100 8

/-- The word stores `x[2]`: the eight bytes at 0x100 after, big-endian and little-endian. -/
def stores (l : List (Word × DWord × DWord × DWord)) : Bool :=
  l.all fun (w, v, b, e) =>
    (gives (run w (memory true v)) fun t => decide (eight t = b)) &&
      (gives (run w (memory false v)) fun t => decide (eight t = e))

theorem test_stores : stores [
    (0xA0220001#32, 0x12345678#64, 0x1178334455667788#64, 0x1178334455667788#64),
    (0xA4220002#32, 0x12345678#64, 0x1122567855667788#64, 0x1122785655667788#64),
    (0xAC220004#32, 0x12345678#64, 0x1122334412345678#64, 0x1122334478563412#64),
    (0xFC220000#32, 0x0102030405060708#64, 0x0102030405060708#64, 0x0807060504030201#64),
    (0xA8220001#32, 0x12345678#64, 0x1112345655667788#64, 0x3412334455667788#64),
    (0xB8220001#32, 0x12345678#64, 0x5678334455667788#64, 0x1178563455667788#64),
    (0xB0220003#32, 0x0102030405060708#64, 0x1122330102030405#64, 0x0403020155667788#64),
    (0xB4220003#32, 0x0102030405060708#64, 0x0506070855667788#64, 0x1122330807060504#64)] = true := by decide +kernel

/-- LL installs the observer; SC stores and reports with it, and does nothing without it (R383, R385). -/
theorem test_linked :
    ((gives (run 0xC0220004#32 (memory true 0#64)) fun t =>
        t.llbit && decide (t.llLine = 0x100#36) && decide (t.cp0.llAddr = 0x10#32)) &&
      (gives (run 0xE0220004#32 { memory true 0x12345678#64 with llbit := true }) fun t =>
        !t.llbit && decide (t.getX 2 = 1#64) && decide (eight t = 0x1122334412345678#64)) &&
      (gives (run 0xE0220005#32 (memory true 0x12345678#64)) fun t =>
        decide (t.getX 2 = 0#64) && decide (eight t = 0x1122334455667788#64)) &&
      (gives (run 0xF0220000#32 { memory true 0x12345678#64 with llbit := true }) fun t =>
        !t.llbit && decide (t.getX 2 = 1#64) && decide (eight t = 0x12345678#64)) &&
      (gives (run 0xA0220007#32 { memory true 0#64 with llbit := true, llLine := 0x100#36 }) fun t => !t.llbit) &&
      (gives (run 0xA0220008#32 { memory true 0#64 with llbit := true, llLine := 0x100#36 }) fun t => t.llbit)) =
      true := by decide +kernel

theorem test_address_errors :
    ((gives (run 0x84220007#32 (memory true 0#64)) fun t =>
        decide (t.cp0.badVAddr = 0xFFFFFFFF80000107#64) && decide (t.cp0.cause.extractLsb' 2 5 = 4#5)) &&
      raises 0xDC220004#32 (memory true 0#64) .adel && raises 0xAC220002#32 (memory true 0#64) .ades) = true := by
  decide +kernel

theorem test_traps :
    (raises 0x00220030#32 (two 0#64 0xFFFFFFFFFFFFFFFF#64) .tr && raises 0x00220031#32 (two 0xFFFFFFFFFFFFFFFF#64 0#64) .tr &&
      raises 0x00220032#32 (two 0xFFFFFFFFFFFFFFFF#64 0#64) .tr && raises 0x00220033#32 (two 0#64 0xFFFFFFFFFFFFFFFF#64) .tr &&
      raises 0x00220034#32 (two 7#64 7#64) .tr && raises 0x00220036#32 (two 0x100000000#64 0#64) .tr &&
      raises 0x0428FFFF#32 (two 0#64 0#64) .tr && raises 0x0429FFFF#32 (two 0xFFFFFFFFFFFFFFFF#64 0#64) .tr &&
      raises 0x042A0000#32 (two 0xFFFFFFFFFFFFFFFF#64 0#64) .tr && raises 0x042B0001#32 (two 0#64 0#64) .tr &&
      raises 0x042CFFFF#32 (two 0xFFFFFFFFFFFFFFFF#64 0#64) .tr && raises 0x042E0005#32 (two 6#64 0#64) .tr) = true := by
  decide +kernel

/-- Not trapping, SYNC, and CACHE in kernel mode change nothing. -/
theorem test_no_effect :
    ([(0x00220030#32, two 0xFFFFFFFFFFFFFFFF#64 0#64), (0x00220031#32, two 0#64 1#64), (0x00220032#32, two 3#64 3#64),
        (0x00220033#32, two 0xFFFFFFFFFFFFFFFF#64 0#64), (0x00220034#32, two 7#64 8#64), (0x00220036#32, two 7#64 7#64),
        (0x0428FFFF#32, two 0xFFFFFFFFFFFFFFFE#64 0#64), (0x0429FFFF#32, two 0xFFFFFFFFFFFFFFFE#64 0#64),
        (0x042A0000#32, two 0#64 0#64), (0x042B0001#32, two 1#64 0#64), (0x042CFFFF#32, two 0xFFFF#64 0#64),
        (0x042E0005#32, two 5#64 0#64), (0x0000000F#32, two 0#64 0#64), (0xBC940000#32, two 0#64 0#64)].all fun (w, s) =>
      gives (run w s) fun t => decide (t = s)) = true := by decide +kernel

/-- A state in the mode of a Status value, at a pc. -/
def mode (status : Word) (pc : DWord) : State :=
  { State.reset with cp0 := { State.reset.cp0 with status := status }, pc := pc }

/-- R660 (a): SYSCALL in user mode. -/
theorem test_syscall :
    (gives (run 0x0000000C#32 (mode 0x11#32 0x400100#64)) fun t =>
      decide (t.cp0.epc = 0x400100#64) && decide (t.cp0.cause = 0x20#32) && decide (t.cp0.status = 0x13#32) &&
        decide (t.pc = 0xFFFFFFFF80000180#64) && decide (t.bstate = .exception)) = true := by decide +kernel

/-- R660 (b): a misaligned LW in a delay slot. -/
theorem test_delay_slot_exception :
    (gives (run 0x8C220000#32 { mode 0x00400000#32 0xFFFFFFFF80001004#64 with
        bstate := .delay, x := State.reset.x.set 1 0x2001#64 }) fun t =>
      decide (t.cp0.badVAddr = 0x2001#64) && decide (t.cp0.epc = 0xFFFFFFFF80001000#64) &&
        decide (t.cp0.cause = 0x80000010#32) && decide (t.cp0.status = 0x00400002#32) &&
        decide (t.pc = 0xFFFFFFFFBFC00380#64)) = true := by decide +kernel

/-- R660 (c): a TLB refill, and the same with EXL set. -/
theorem test_tlb_refill :
    ((gives (run 0x8C220000#32 { mode 0#32 0xFFFFFFFF80001000#64 with
        x := State.reset.x.set 1 0x10002ABC#64, cp0 := { State.reset.cp0 with status := 0#32, entryHi := 5#64 } }) fun t =>
      decide (t.cp0.badVAddr = 0x10002ABC#64) && decide (t.cp0.entryHi = 0x10002005#64) &&
        decide (t.cp0.context = 0x80010#64) && decide (t.cp0.xContext = 0x80010#64) &&
        decide (t.cp0.cause = 8#32) && decide (t.pc = 0xFFFFFFFF80000000#64)) &&
      (gives (run 0x8C220000#32 { mode 2#32 0xFFFFFFFF80001000#64 with
        x := State.reset.x.set 1 0x10002ABC#64 }) fun t =>
      decide (t.cp0.epc = 0#64) && decide (t.cp0.cause = 8#32) && decide (t.pc = 0xFFFFFFFF80000180#64))) = true := by
  decide +kernel

/-- R660 (d): MTC1 with CU1 = 0. -/
theorem test_coprocessor_unusable :
    (gives (run 0x44820800#32 (mode 0x10#32 0x400200#64)) fun t =>
      decide (t.cp0.cause = 0x1000002C#32) && decide (t.cp0.epc = 0x400200#64) &&
        decide (t.pc = 0xFFFFFFFF80000180#64)) = true := by decide +kernel

/-- R660 (e): ERET from the exception level, and from the error level first. -/
theorem test_eret :
    ((gives (run 0x42000018#32 { mode 0x13#32 0#64 with
        llbit := true, cp0 := { State.reset.cp0 with status := 0x13#32, epc := 0x400104#64 } }) fun t =>
      decide (t.pc = 0x400104#64) && decide (t.cp0.status = 0x11#32) && !t.llbit && t.userMode) &&
      (gives (run 0x42000018#32 { mode 0#32 0#64 with
        cp0 := { State.reset.cp0 with status := 0x00400006#32, errorEpc := 0xFFFFFFFFBFC00400#64 } }) fun t =>
      decide (t.pc = 0xFFFFFFFFBFC00400#64) && decide (t.cp0.status = 0x00400002#32))) = true := by decide +kernel

/-- R660 (f): the timer interrupt at a boundary. -/
theorem test_interrupt :
    (gives (step { mode 0x8001#32 0x400300#64 with timerPending := true }) fun t =>
      decide (t.cp0.epc = 0x400300#64) && decide (t.cp0.status = 0x8003#32) && decide (t.pc = 0xFFFFFFFF80000180#64) &&
        decide (t.cp0.cause.extractLsb' 2 5 = 0#5) && decide (t.bstate = .none)) = true := by decide +kernel

/-- The examples of R441 to R444. -/
theorem test_cp0_moves :
    ((gives (run 0x40026000#32 State.reset) fun t => decide (t.getX 2 = 0x00400004#64)) &&
      (gives (run 0x40027000#32 { State.reset with cp0 := { State.reset.cp0 with epc := 0x180001000#64 } }) fun t =>
        decide (t.getX 2 = 0xFFFFFFFF80001000#64)) &&
      (gives (run 0x40227000#32 { State.reset with cp0 := { State.reset.cp0 with epc := 0x180001000#64 } }) fun t =>
        decide (t.getX 2 = 0x180001000#64)) &&
      (gives (run 0x40826000#32 (two 0#64 0x10000001#64)) fun t => decide (t.cp0.status = 0x10000001#32)) &&
      (gives (run 0x40827000#32 (two 0#64 0x80001000#64)) fun t => decide (t.cp0.epc = 0xFFFFFFFF80001000#64)) &&
      (gives (run 0x40A25000#32 (two 0#64 0xC000001234566055#64)) fun t =>
        decide (t.cp0.entryHi = 0xC000001234566055#64))) = true := by decide +kernel

/-- The registers of R448's example, EntryLo1 given. -/
def tlbRegs (lo1 : DWord) : State :=
  { State.reset with
    cp0 := { State.reset.cp0 with
      index := 3#32, entryHi := 0x10002005#64, entryLo0 := 0x48DF#64, entryLo1 := lo1, wired := 8#32 } }

/-- The entry of R447's and R448's examples, G given. -/
def tlbExample (g : Bool) : TlbEntry :=
  ⟨0#12, 0#2, 0x8001#27, 5#8, g, ⟨0x123#24, 3#3, true, true⟩, ⟨0x124#24, 3#3, true, true⟩⟩

theorem test_tlb_write_and_read :
    ((gives (run 0x42000002#32 (tlbRegs 0x491E#64)) fun t => decide (t.tlb[3] = tlbExample false)) &&
      (gives (run 0x42000001#32 { State.reset with
          cp0 := { State.reset.cp0 with index := 3#32 }, tlb := State.reset.tlb.set 3 (tlbExample true) }) fun t =>
        decide (t.cp0.pageMask = 0#32) && decide (t.cp0.entryHi = 0x10002005#64) &&
          decide (t.cp0.entryLo0 = 0x48DF#64) && decide (t.cp0.entryLo1 = 0x491F#64))) = true := by decide +kernel

/-- A TLB whose entries match nothing below 0x2000_0000, but for entry 3. -/
def tlbState (g : Bool) : State :=
  { tlbRegs 0x491F#64 with tlb := (Vector.replicate 48 { TlbEntry.zero with vpn2 := 0x7FFFF#27 }).set 3 (tlbExample g) }

theorem test_tlb_probe :
    ((gives (run 0x42000008#32 (tlbState false)) fun t => decide (t.cp0.index = 3#32)) &&
      (gives (run 0x42000008#32 { tlbState false with
          cp0 := { (tlbState false).cp0 with entryHi := 0x10004005#64 } }) fun t =>
        decide (t.cp0.index = 0x80000000#32))) = true := by decide +kernel

theorem test_coprocessor_2 :
    ([0x48000000#32, 0xC8220000#32, 0xD8220000#32, 0xE8220000#32, 0xF8220000#32].all fun w =>
      gives (run w (mode 0#32 0x400200#64)) fun t => decide (t.cp0.cause = 0x2000002C#32)) = true := by decide +kernel

/-- A state with coprocessor 1 usable, FR, FCR31 and the cells 0 to 2 given. -/
def fpu (fr : Bool) (fcr : Word) (f0 f1 f2 : DWord) : State :=
  { two 0xFFFFFFFF80000100#64 0#64 with
    fcr31 := fcr
    f := ((State.reset.f.set 0 f0).set 1 f1).set 2 f2
    mem := (memory true 0#64).mem
    cp0 := { State.reset.cp0 with status := if fr then 0x24000000#32 else 0x20000000#32 } }

/-- The examples of R484 to R497. -/
theorem test_fpu_moves :
    ((gives (run 0x44020800#32 (fpu false 0#32 0xBF80000040490FDB#64 0#64 0#64)) fun t =>
        decide (t.getX 2 = 0xFFFFFFFFBF800000#64)) &&
      (gives (run 0x44221000#32 (fpu false 0#32 0#64 0#64 0x3FF0000000000000#64)) fun t =>
        decide (t.getX 2 = 0x3FF0000000000000#64)) &&
      (gives (run 0x4442F800#32 (fpu false 0x00800003#32 0#64 0#64 0#64)) fun t => decide (t.getX 2 = 0x00800003#64)) &&
      (gives (run 0x44820800#32 { fpu false 0#32 0#64 5#64 0#64 with x := State.reset.x.set 2 0x3F800000#64 }) fun t =>
        decide (t.f[0] = 0x3F80000000000000#64) && decide (t.f[1] = 5#64)) &&
      (gives (run 0x44820800#32 { fpu true 0#32 0#64 0xFF00000000#64 0#64 with
          x := State.reset.x.set 2 0x3F800000#64 }) fun t => decide (t.f[1] = 0x3F800000#64)) &&
      (gives (run 0x44A21000#32 { fpu true 0#32 0#64 0#64 0#64 with
          x := State.reset.x.set 2 0x4000000000000000#64 }) fun t => decide (t.f[2] = 0x4000000000000000#64)) &&
      (gives (run 0x44C2F800#32 { fpu true 0#32 0#64 0#64 0#64 with x := State.reset.x.set 2 0x01000E01#64 }) fun t =>
        decide (t.fcr31 = 0x01000E01#32) && decide (t.bstate = .none)) &&
      (gives (run 0x44C2F800#32 { fpu true 0#32 0#64 0#64 0#64 with x := State.reset.x.set 2 0x00010800#64 }) fun t =>
        decide (t.fcr31 = 0x00010800#32) && decide (t.cp0.cause = 0x3C#32))) = true := by decide +kernel

theorem test_fpu_branches_and_memory :
    ((gives (run 0x45000004#32 (fpu true 0#32 0#64 0#64 0#64)) fun t => decide (t.btarget = 0xFFFFFFFF80001014#64)) &&
      (gives (run 0x45010004#32 (fpu true 0x00800000#32 0#64 0#64 0#64)) fun t => decide (t.bstate = .branch)) &&
      (gives (run 0x45020004#32 (fpu true 0x00800000#32 0#64 0#64 0#64)) fun t => decide (t.bstate = .nullify)) &&
      (gives (run 0x45030004#32 (fpu true 0#32 0#64 0#64 0#64)) fun t => decide (t.bstate = .nullify)) &&
      (gives (run 0xC4220004#32 (fpu true 0#32 0#64 0#64 0#64)) fun t => decide (t.f[2] = 0x55667788#64)) &&
      (gives (run 0xD4220000#32 (fpu true 0#32 0#64 0#64 0#64)) fun t => decide (t.f[2] = 0x1122334455667788#64)) &&
      (gives (run 0xE4220004#32 (fpu true 0#32 0#64 0#64 0x3F800000#64)) fun t =>
        decide (eight t = 0x112233443F800000#64)) &&
      (gives (run 0xF4220000#32 (fpu true 0#32 0#64 0#64 0x3FF0000000000000#64)) fun t =>
        decide (eight t = 0x3FF0000000000000#64))) = true := by decide +kernel

/-- A floating-point word with fs 1, ft 2, fd 3 and FR = 1: FCR31 before, the two sources, the cell of fd, and
Cause (FCR31 bits 17:12) after. -/
def computes (l : List (Word × Word × DWord × DWord × DWord × BitVec 6)) : Bool :=
  l.all fun (w, m, a, b, v, c) =>
    gives (run w (fpu true m 0#64 a b)) fun t => decide (t.f[3] = v) && decide (t.fcr31.extractLsb' 12 6 = c)

theorem test_fpu_arith : computes [
    (0x460208C0#32, 0#32, 0x3FC00000#64, 0x40100000#64, 0x40700000#64, 0#6),
    (0x462208C0#32, 0#32, 0x3FF8000000000000#64, 0x4002000000000000#64, 0x400E000000000000#64, 0#6),
    (0x460208C1#32, 0#32, 0x3FC00000#64, 0x40100000#64, 0xBF400000#64, 0#6),
    (0x462208C1#32, 0#32, 0x3FF8000000000000#64, 0x4002000000000000#64, 0xBFE8000000000000#64, 0#6),
    (0x460208C2#32, 0#32, 0x3FC00000#64, 0x40100000#64, 0x40580000#64, 0#6),
    (0x462208C2#32, 0#32, 0x3FF8000000000000#64, 0x4002000000000000#64, 0x400B000000000000#64, 0#6),
    (0x460208C3#32, 0#32, 0x40400000#64, 0x40000000#64, 0x3FC00000#64, 0#6),
    (0x460208C3#32, 0#32, 0x3F800000#64, 0x0#64, 0x7F800000#64, 8#6),
    (0x462208C3#32, 0#32, 0x3FF0000000000000#64, 0x4008000000000000#64, 0x3FD5555555555555#64, 1#6),
    (0x460008C4#32, 0#32, 0x41100000#64, 0x0#64, 0x40400000#64, 0#6),
    (0x462008C4#32, 0#32, 0x4000000000000000#64, 0x0#64, 0x3FF6A09E667F3BCD#64, 1#6),
    (0x460008C5#32, 0#32, 0xFFC00000#64, 0x0#64, 0x7FC00000#64, 0#6),
    (0x462008C5#32, 0#32, 0xBFF8000000000000#64, 0x0#64, 0x3FF8000000000000#64, 0#6),
    (0x460008C6#32, 0#32, 0x7FA00000#64, 0x0#64, 0x7FA00000#64, 0#6),
    (0x462008C6#32, 0#32, 0x123456789ABCDEF0#64, 0x0#64, 0x123456789ABCDEF0#64, 0#6),
    (0x460008C7#32, 0#32, 0x0#64, 0x0#64, 0x80000000#64, 0#6),
    (0x462008C7#32, 0#32, 0x3FF8000000000000#64, 0x0#64, 0xBFF8000000000000#64, 0#6)] = true := by decide +kernel

theorem test_fpu_round_to_integer : computes [
    (0x460008C8#32, 0#32, 0xC0200000#64, 0x0#64, 0xFFFFFFFFFFFFFFFE#64, 1#6),
    (0x462008C8#32, 0#32, 0xC004000000000000#64, 0x0#64, 0xFFFFFFFFFFFFFFFE#64, 1#6),
    (0x460008CC#32, 0#32, 0xC0200000#64, 0x0#64, 0xFFFFFFFE#64, 1#6),
    (0x462008CC#32, 0#32, 0xC004000000000000#64, 0x0#64, 0xFFFFFFFE#64, 1#6),
    (0x460008C9#32, 0#32, 0xC0200000#64, 0x0#64, 0xFFFFFFFFFFFFFFFE#64, 1#6),
    (0x462008C9#32, 0#32, 0xC004000000000000#64, 0x0#64, 0xFFFFFFFFFFFFFFFE#64, 1#6),
    (0x460008CD#32, 0#32, 0xC0200000#64, 0x0#64, 0xFFFFFFFE#64, 1#6),
    (0x462008CD#32, 0#32, 0xC004000000000000#64, 0x0#64, 0xFFFFFFFE#64, 1#6),
    (0x460008CA#32, 0#32, 0xC0200000#64, 0x0#64, 0xFFFFFFFFFFFFFFFE#64, 1#6),
    (0x462008CA#32, 0#32, 0xC004000000000000#64, 0x0#64, 0xFFFFFFFFFFFFFFFE#64, 1#6),
    (0x460008CE#32, 0#32, 0xC0200000#64, 0x0#64, 0xFFFFFFFE#64, 1#6),
    (0x462008CE#32, 0#32, 0xC004000000000000#64, 0x0#64, 0xFFFFFFFE#64, 1#6),
    (0x460008CB#32, 0#32, 0xC0200000#64, 0x0#64, 0xFFFFFFFFFFFFFFFD#64, 1#6),
    (0x462008CB#32, 0#32, 0xC004000000000000#64, 0x0#64, 0xFFFFFFFFFFFFFFFD#64, 1#6),
    (0x460008CF#32, 0#32, 0xC0200000#64, 0x0#64, 0xFFFFFFFD#64, 1#6),
    (0x462008CF#32, 0#32, 0xC004000000000000#64, 0x0#64, 0xFFFFFFFD#64, 1#6),
    (0x460008CE#32, 0#32, 0x40200000#64, 0x0#64, 0x3#64, 1#6),
    (0x462008CA#32, 0#32, 0x4004000000000000#64, 0x0#64, 0x3#64, 1#6)] = true := by decide +kernel

theorem test_fpu_convert : computes [
    (0x462008E0#32, 0#32, 0x3FF0000000000001#64, 0x0#64, 0x3F800000#64, 1#6),
    (0x468008E0#32, 0#32, 0xFFFFFFFD#64, 0x0#64, 0xC0400000#64, 0#6),
    (0x468008E0#32, 0#32, 0x01000001#64, 0x0#64, 0x4B800000#64, 1#6),
    (0x46A008E0#32, 0#32, 0x7#64, 0x0#64, 0x40E00000#64, 0#6),
    (0x460008E1#32, 0#32, 0x3FC00000#64, 0x0#64, 0x3FF8000000000000#64, 0#6),
    (0x468008E1#32, 0#32, 0x80000000#64, 0x0#64, 0xC1E0000000000000#64, 0#6),
    (0x46A008E1#32, 0#32, 0xFFFFFFFFFFFFFFFF#64, 0x0#64, 0xBFF0000000000000#64, 0#6),
    (0x460008E4#32, 0#32, 0x40200000#64, 0x0#64, 0x2#64, 1#6),
    (0x460008E4#32, 2#32, 0x40200000#64, 0x0#64, 0x3#64, 1#6),
    (0x462008E4#32, 0#32, 0xC01C000000000000#64, 0x0#64, 0xFFFFFFF9#64, 0#6),
    (0x462008E4#32, 0#32, 0x41F0000000000000#64, 0x0#64, 0x7FFFFFFF#64, 16#6),
    (0x460008E5#32, 0#32, 0x4F800000#64, 0x0#64, 0x100000000#64, 0#6),
    (0x462008E5#32, 0#32, 0xBFE0000000000000#64, 0x0#64, 0x0#64, 1#6),
    (0x462008E5#32, 3#32, 0xBFE0000000000000#64, 0x0#64, 0xFFFFFFFFFFFFFFFF#64, 1#6)] = true := by decide +kernel

/-- The comparisons of R567 to R598: the word, and C for a pair that is less, and for an equal pair. -/
def compares (a b : DWord) (l : List (Word × Bool × Bool)) : Bool :=
  l.all fun (w, c, d) =>
    (gives (run w (fpu true 0#32 0#64 a b)) fun t => decide (t.fpc = c)) &&
      (gives (run w (fpu true 0x00800000#32 0#64 a a)) fun t => decide (t.fpc = d))

theorem test_fpu_compare_s : compares 0x3F800000#64 0x40000000#64 [
    (0x46020830#32, false, false), (0x46020831#32, false, false), (0x46020832#32, false, true),
    (0x46020833#32, false, true), (0x46020834#32, true, false), (0x46020835#32, true, false),
    (0x46020836#32, true, true), (0x46020837#32, true, true), (0x46020838#32, false, false),
    (0x46020839#32, false, false), (0x4602083A#32, false, true), (0x4602083B#32, false, true),
    (0x4602083C#32, true, false), (0x4602083D#32, true, false), (0x4602083E#32, true, true),
    (0x4602083F#32, true, true)] = true := by decide +kernel

theorem test_fpu_compare_d : compares 0x3FF0000000000000#64 0x4000000000000000#64 [
    (0x46220830#32, false, false), (0x46220831#32, false, false), (0x46220832#32, false, true),
    (0x46220833#32, false, true), (0x46220834#32, true, false), (0x46220835#32, true, false),
    (0x46220836#32, true, true), (0x46220837#32, true, true), (0x46220838#32, false, false),
    (0x46220839#32, false, false), (0x4622083A#32, false, true), (0x4622083B#32, false, true),
    (0x4622083C#32, true, false), (0x4622083D#32, true, false), (0x4622083E#32, true, true),
    (0x4622083F#32, true, true)] = true := by decide +kernel

/-- An enabled division by zero takes FPE and leaves fd (R531). -/
theorem test_fpu_enabled :
    (gives (run 0x460208C3#32 (fpu true 0x00000400#32 0#64 0x3F800000#64 0#64)) fun t =>
      decide (t.cp0.cause = 0x3C#32) && decide (t.f[3] = 0#64) && decide (t.fcr31 = 0x00008400#32)) = true := by
  decide +kernel

/-- A signalling comparison of a NaN is invalid whichever NaN it is, and unordered (R524). -/
theorem test_fpu_compare_nan :
    fpCompare fmtS 8#4 0x3F800000 0x7FC00000 = (false, 0x10#5) ∧
      fpCompare fmtS 9#4 0x3F800000 0x7FC00000 = (true, 0x10#5) := by
  simp only [fpCompare, show fpUnordered fmtS 0x3F800000 0x7FC00000 = true by decide,
    show (8#4).getLsbD 3 = true by decide, show (9#4).getLsbD 3 = true by decide, Bool.and_true, Bool.or_true]
  decide

/-- ERET is matched on all 32 bits: other CO words with its function are reserved (R623, D6, U9). -/
theorem test_reserved_eret :
    decode 0x42000058#32 = .reserved .cop0 ∧ decode 0x43000018#32 = .reserved .cop0 ∧
      (raises 0x42000058#32 (two 0#64 0#64) .ri && raises 0x42000058#32 (mode 0x10#32 0#64) .cpu) = true := by
  decide +kernel

/-- The reserved coprocessor-1 word of R599, with and without CU1. -/
theorem test_reserved_cop1 :
    ((gives (run 0x46000020#32 (fpu true 0x0001F07C#32 0#64 0#64 0#64)) fun t =>
        decide (t.fcr31 = 0x0002007C#32) && decide (t.cp0.cause = 0x3C#32)) &&
      (gives (run 0x46000020#32 State.reset) fun t => decide (t.cp0.cause = 0x1000002C#32))) = true := by decide +kernel

/-! ## Witnesses: for every obligation with hypotheses, states and operands that meet them, clause by clause -/

/-- A result that is a next state with a property is a next state. -/
theorem next_of {r : Result} {p : State → Bool} (h : gives r p = true) : ∃ t, r = .next t ∧ p t = true := by
  cases r <;> simp_all [gives]

theorem accessOk_of {s : State} {k : AccessKind} {va : DWord} {n : Nat} {pa : PAddr} (p : Policy)
    (h : va.toNat % n = 0 ∧ translate s k va = .ok pa p ∧ s.watchHit k pa = false) : AccessOk s k va n pa :=
  ⟨h.1, ⟨p, h.2.1⟩, (watchHit_false ..).mp h.2.2⟩

/-- A state whose TLB entry 0 alone matches below 0x8000_0000: it maps the pages 0x400000 and 0x401000 to the
frames 1 and 2 as given, globally; the other entries hold an address of xkseg. `x[1]` is 0x400100. -/
def paged (status : Word) (lo0 lo1 : TlbLo) : State :=
  { mode status 0x400000#64 with
    x := State.reset.x.set 1 0x400100#64
    tlb := (Vector.replicate 48 { TlbEntry.zero with vpn2 := 0x7FFFF#27 }).set 0
      ⟨0#12, 0#2, 0x200#27, 0#8, true, lo0, lo1⟩ }

/-- `paged`, both pages valid and writable. -/
def user (status : Word) : State := paged status ⟨1#24, 3#3, true, true⟩ ⟨2#24, 2#3, true, true⟩

theorem witness_DecodeEncodeRoundTrip :
    WellFormed (.dsra32 31 31 31) = true ∧ WellFormed (.cop2 67108863) = true ∧ WellFormed (.tne 0 31 1023) = true := by
  decide

theorem witness_DecodeFollowsOpcodeTable :
    decode 0x0002193B#32 = .instr (.dsra 3 2 4) ∧
      0x03E0F808#32 &&& (tableRow (.jr 0)).1 = (tableRow (.jr 0)).2 := by decide +kernel

/-- The premises of a fetch at `pc`: no interrupt, and the word readable. -/
def fetches (s : State) (pa : PAddr) (p : Policy) (w : Word) : Bool :=
  let b := beginStep s
  !b.interruptTaken && decide (b.pc.toNat % 4 = 0) && decide (translate b .fetch b.pc = .ok pa p) &&
    !b.watchHit .fetch pa && decide (BitVec.ofNat 32 (numberAt b pa.toNat 4) = w)

theorem fetches_meets {s : State} {pa : PAddr} {p : Policy} {w : Word} (h : fetches s pa p w = true) :
    (beginStep s).interruptTaken = false ∧ AccessOk (beginStep s) .fetch (beginStep s).pc 4 pa ∧
      BitVec.ofNat 32 (numberAt (beginStep s) pa.toNat 4) = w := by
  simp only [fetches, Bool.and_eq_true, Bool.not_eq_true', decide_eq_true_eq] at h
  exact ⟨h.1.1.1.1, ⟨h.1.1.1.2, ⟨p, h.1.1.2⟩, (watchHit_false ..).mp h.1.2⟩, h.2⟩

/-- The five clauses: a reserved word under SPECIAL; one of coprocessor 0 in user mode and in kernel mode; one of
coprocessor 1 without and with CU1. -/
theorem witness_ReservedWordsRaise :
    (fetches ((two 0#64 0#64).withFetchWord 32 0x00000001) 0x1000#36 .cached 0x00000001#32 = true ∧
      decode 0x00000001#32 = .reserved .plain) ∧
    (fetches ((user 0x10#32).withFetchWord 32 0x42000003) 0x1000#36 .cached 0x42000003#32 = true ∧
      decode 0x42000003#32 = .reserved .cop0 ∧
      (beginStep ((user 0x10#32).withFetchWord 32 0x42000003)).cp0Usable = false) ∧
    (fetches ((two 0#64 0#64).withFetchWord 32 0x42000003) 0x1000#36 .cached 0x42000003#32 = true ∧
      (beginStep ((two 0#64 0#64).withFetchWord 32 0x42000003)).cp0Usable = true) ∧
    (fetches ((two 0#64 0#64).withFetchWord 32 0x46000020) 0x1000#36 .cached 0x46000020#32 = true ∧
      decode 0x46000020#32 = .reserved .cop1 ∧
      (beginStep ((two 0#64 0#64).withFetchWord 32 0x46000020)).cu1 = false) ∧
    (fetches ((user 0x20000010#32).withFetchWord 32 0x46000020) 0x1000#36 .cached 0x46000020#32 = true ∧
      (beginStep ((user 0x20000010#32).withFetchWord 32 0x46000020)).cu1 = true) := by decide +kernel

/-- The result is the refusal. -/
def refuses (r : Result) (q : Refusal) : Bool :=
  match r with
  | .refused p => decide (p = q)
  | _ => false

theorem refuses_meets {r : Result} {q : Refusal} (h : refuses r q = true) : r = .refused q := by
  cases r <;> simp_all [refuses]

/-- An instruction that runs, one that is refused; a pc that is misaligned, outside the segments, not mapped,
and undefined. -/
theorem witness_StepRunsDecodedInstruction :
    (fetches ((user 0x10#32).withFetchWord 32 0x8C220004) 0x1000#36 .cached 0x8C220004#32 = true ∧
      decode 0x8C220004#32 = .instr (.lw 2 1 4#16) ∧
      gives (exec (.lw 2 1 4#16) (beginStep ((user 0x10#32).withFetchWord 32 0x8C220004)))
        (fun t => decide (t.bstate = .none)) = true) ∧
    (fetches ((user 0x40000010#32).withFetchWord 32 0x48000000) 0x1000#36 .cached 0x48000000#32 = true ∧
      refuses (exec (.cop2 0) (beginStep ((user 0x40000010#32).withFetchWord 32 0x48000000)))
        .coprocessor2Enabled = true) ∧
    ((beginStep { State.reset with pc := 0xFFFFFFFFBFC00002#64 }).interruptTaken = false ∧
      (beginStep { State.reset with pc := 0xFFFFFFFFBFC00002#64 }).pc.toNat % 4 ≠ 0) ∧
    (let b := beginStep { user 0x10#32 with pc := 0x80000000#64 };
      b.interruptTaken = false ∧ translate b .fetch b.pc = .error) ∧
    (let b := beginStep { user 0x10#32 with pc := 0x402000#64 };
      b.interruptTaken = false ∧ b.pc.toNat % 4 = 0 ∧ translate b .fetch b.pc = .miss .refill) ∧
    (let b := beginStep { user 0x10#32 with tlb := (user 0x10#32).tlb.set 47 { TlbEntry.zero with mask := 1#12 } };
      b.interruptTaken = false ∧ b.pc.toNat % 4 = 0 ∧ translate b .fetch b.pc = .undefinedMask) := by
  decide +kernel

/-- The timer line, the first software line, an external line, and a masked line. -/
theorem witness_InterruptTakenAtBoundary :
    (beginStep { mode 0x8001#32 0x400300#64 with timerPending := true, bstate := .delay }).interruptTaken = true ∧
    (beginStep { mode 0x0101#32 0#64 with
      cp0 := { State.reset.cp0 with status := 0x0101#32, cause := 0x100#32 } }).interruptTaken = true ∧
    (beginStep { mode 0x0401#32 0#64 with inputs := [[.irq 1#6]] }).interruptTaken = true ∧
    (beginStep { mode 0x0403#32 0#64 with inputs := [[.irq 1#6]] }).interruptTaken = false := by decide +kernel

theorem witness_AdvanceTable : ∀ b : BState, ∃ s : State, s.bstate = b :=
  fun b => ⟨{ State.reset with bstate := b }, rfl⟩

/-- Reset, and a store in a delay slot that reaches the observed line. -/
theorem witness_StepKeepsInvariant :
    (State.reset.Inv ∧ gives (step State.reset) (fun t => decide (t.pc = 0xFFFFFFFFBFC00004#64)) = true) ∧
    ∃ s : State, s.Inv ∧ gives (step s) (fun t => !t.llbit && decide (eight t = 0x1122334400000009#64)) = true :=
  ⟨⟨⟨by decide, by decide, by decide, by decide, by decide, by decide, by decide, by decide, by decide⟩,
      by decide +kernel⟩,
    ({ memory true 9#64 with bstate := .delay, llbit := true, llLine := 0x100#36 }).withFetchWord 32 0xAC220004,
    ⟨by decide +kernel, by decide +kernel, by decide +kernel, by decide +kernel, by decide +kernel,
      by decide +kernel, by decide +kernel, by decide +kernel, by decide +kernel⟩, by decide +kernel⟩

theorem witness_TlbChangedOnlyByTlbWrites :
    gives (exec .tlbr State.reset) (fun _ => true) = true ∧
      gives (execReserved .plain State.reset) (fun _ => true) = true ∧
      (match fetch State.reset 0xFFFFFFFFBFC00002#64 with | .raised _ => true | _ => false) = true ∧
      gives (step ((tlbRegs 0x491E#64).withFetchWord 32 0x42000002)) (fun t =>
        decide (t.tlb ≠ (tlbRegs 0x491E#64).tlb)) = true := by
  decide +kernel

/-- A user program's own instruction, and one that takes an exception. -/
theorem witness_UserModeIsolation :
    (user 0x10#32).kernelMode = false ∧ (user 0x10#32).cu0 = false ∧
      gives (exec (.ll 2 1 0#16) (user 0x10#32)) (fun t => decide (t.cp0.llAddr = 0x110#32)) = true ∧
      gives (exec (.mtc0 1 12) (user 0x10#32)) (fun t => decide (t.bstate = .exception)) = true := by decide +kernel

theorem witness_ObserverRemovedByWrites :
    let s : State := { memory true 0#64 with llbit := true, llLine := 0x100#36 }
    s.llbit = true ∧ s.inLine 0x107 = true ∧
      gives (exec (.sb 2 1 7#16) s) (fun t =>
        decide (Memory.readByte t.mem 0x107 ≠ Memory.readByte s.mem 0x107)) = true := by decide +kernel

theorem witness_ExceptionEntry :
    (mode 0#32 4#64).cp0.status.getLsbD 1 = false ∧ (mode 2#32 4#64).cp0.status.getLsbD 1 = true := by decide

/-- Every way an access ends: misaligned, outside the segments, the three TLB exceptions, watched, undefined. -/
theorem witness_DataAccessExceptions :
    ((addressOf (user 0x10#32) 1 7#16).toNat % 2 ≠ 0 ∧ (addressOf (user 0x10#32) 1 6#16).toNat % 4 ≠ 0 ∧
      (addressOf (user 0x10#32) 1 4#16).toNat % 8 ≠ 0) ∧
    (let s := { user 0x10#32 with x := State.reset.x.set 1 0xFFFFFFFF80000000#64 };
      (addressOf s 1 0#16).toNat % 8 = 0 ∧ translate s .store (addressOf s 1 0#16) = .error) ∧
    (let s := { user 0x10#32 with x := State.reset.x.set 1 0x402000#64 };
      (addressOf s 1 0#16).toNat % 8 = 0 ∧ translate s .load (addressOf s 1 0#16) = .miss .refill) ∧
    (let s := paged 0x10#32 ⟨1#24, 3#3, false, false⟩ ⟨2#24, 3#3, false, true⟩;
      (addressOf s 1 0#16).toNat % 8 = 0 ∧ translate s .load (addressOf s 1 0#16) = .miss .invalid ∧
        translate s .store (addressOf s 1 0x1000#16) = .miss .modify) ∧
    (let s := { user 0x10#32 with cp0 := { (user 0x10#32).cp0 with watchLo := 0x1103#32 } };
      (addressOf s 1 0#16).toNat % 8 = 0 ∧ translate s .load (addressOf s 1 0#16) = .ok 0x1100#36 .cached ∧
        s.watchHit .load 0x1100#36 = true ∧ s.watchHit .store 0x1100#36 = true ∧
        s.watchHit .load 0x1108#36 = false) ∧
    (let s := { user 0x10#32 with tlb := (user 0x10#32).tlb.set 47 { TlbEntry.zero with mask := 1#12 } };
      (addressOf s 1 0#16).toNat % 8 = 0 ∧ translate s .load (addressOf s 1 0#16) = .undefinedMask) ∧
    (user 0x30#32).ops64 = true ∧ (user 0x20000010#32).cu1 = true ∧
      ({ user 0x30#32 with llbit := true }).llbit = true := by decide +kernel

/-- The watched doubleword of the witness above, in the words of the statements. -/
theorem watched_witness :
    Watched { user 0x10#32 with cp0 := { (user 0x10#32).cp0 with watchLo := 0x1103#32 } } .store 0x1107#36 :=
  (watchHit_iff ..).mp (by decide +kernel)

theorem legal64_witness :
    Legal64 (user 0x24000010#32) 31 ∧ Legal64 (user 0x20000010#32) 30 ∧ ¬Legal64 (user 0x20000010#32) 31 := by
  unfold Legal64; decide +kernel

/-- From the exception level and from the error level. -/
theorem witness_EretReturns :
    (mode 0x12#32 0#64).cp0Usable = true ∧ (mode 0x14#32 0#64).cp0Usable = true ∧
      (mode 0x10000010#32 0#64).cp0Usable = true := by decide

/-- A flag with its Enable bit, and one without. -/
theorem enabled_witness :
    Enabled { user 0x20000010#32 with fcr31 := 0x400#32 } 0x08#5 ∧ ¬Enabled { user 0x20000010#32 with fcr31 := 0x400#32 } 0x10#5 ∧
      Enabled { user 0x20000010#32 with fcr31 := 0x80#32 } 0x01#5 := by
  refine ⟨⟨3, by decide⟩, ?_, ⟨0, by decide⟩⟩
  rintro ⟨j, hj, h⟩
  revert h; revert j; decide

theorem witness_FpFinishRule :
    ∃ s fl gl, Enabled s fl ∧ ¬Enabled s gl := ⟨_, _, _, enabled_witness.1, enabled_witness.2.1⟩

/-- An unmapped address, and the two pages of a mapped one. -/
theorem witness_TranslationKeepsPageOffset :
    translate State.reset .fetch 0xFFFFFFFFBFC00FFC#64 = .ok 0x1FC00FFC#36 .uncached ∧
      translate (user 0x10#32) .load 0x400FFF#64 = .ok 0x1FFF#36 .cached ∧
      translate (user 0x10#32) .store 0x401FFF#64 = .ok 0x2FFF#36 .uncached ∧
      classify (user 0x10#32) 0x400FFF#64 = .mapped := by decide +kernel

theorem witness_UserSegments :
    ((mode 0x10#32 0#64).userMode = true ∧ (mode 0x10#32 0#64).ux = false) ∧
      ((mode 0x30#32 0#64).userMode = true ∧ (mode 0x30#32 0#64).ux = true) ∧
      ((mode 0x08#32 0#64).supervisorMode = true ∧ (mode 0x08#32 0#64).sx = false) ∧
      ((mode 0x48#32 0#64).supervisorMode = true ∧ (mode 0x48#32 0#64).sx = true) ∧
      ((mode 0x00#32 0#64).kernelMode = true ∧ (mode 0x00#32 0#64).kx = false) ∧
      ((mode 0x84#32 0#64).kernelMode = true ∧ (mode 0x84#32 0#64).kx = true) ∧
      classify (mode 0x80#32 0#64) 0x9000000FFFFFFFFF#64 = .unmapped 0xFFFFFFFFF#36 .uncached ∧
      classify (mode 0x84#32 0#64) 0x7FFFFFFF#64 = .unmapped 0x7FFFFFFF#36 .uncached ∧
      classify (mode 0x80#32 0#64) 0x9000001000000000#64 = .error := by decide

/-- No match; a match that is invalid, that may not be written, and that gives a frame; the last user address. -/
theorem witness_MappedTranslation :
    let s := paged 0x10#32 ⟨1#24, 3#3, false, false⟩ ⟨2#24, 3#3, false, true⟩
    (classify s 0x7FFFFFFF#64 = .mapped ∧ s.tlbMasksLegal = true ∧ s.matching 0x7FFFFFFF#64 = []) ∧
      (classify s 0x400000#64 = .mapped ∧ s.matching 0x400000#64 = [0] ∧ s.tlb[0].lo0.v = false) ∧
      (classify s 0x401FFF#64 = .mapped ∧ s.matching 0x401FFF#64 = [0] ∧ s.tlb[0].lo1.v = true ∧
        s.tlb[0].lo1.d = false) := by decide +kernel

theorem witness_CoprocessorUnusable :
    ((tableRow (.mfc0 1 12)).2.extractLsb' 26 6 = 0x10#6 ∧ (tableRow (.cache 0 0 0#16)).2.extractLsb' 26 6 = 0x2F#6 ∧
      (tableRow (.addS 0 0 0)).2.extractLsb' 26 6 = 0x11#6 ∧ (tableRow (.lwc1 0 0 0#16)).2.extractLsb' 26 6 = 0x31#6 ∧
      (tableRow (.ldc1 0 0 0#16)).2.extractLsb' 26 6 = 0x35#6 ∧ (tableRow (.swc1 0 0 0#16)).2.extractLsb' 26 6 = 0x39#6 ∧
      (tableRow (.sdc1 0 0 0#16)).2.extractLsb' 26 6 = 0x3D#6) ∧
      (user 0x10#32).kernelMode = false ∧ (user 0x10#32).cu0 = false ∧ (user 0x10#32).cu1 = false := by decide +kernel

theorem witness_WideOperationsNeedOps64 :
    let s := user 0x30000010#32
    s.kernelMode = false ∧ s.addr64 = false ∧ s.cu0 = true ∧ s.cu1 = true := by decide +kernel

/-- Kernel mode, and user mode with UX = 1. -/
theorem witness_WrappingSums : State.reset.ops64 = true ∧ (user 0x30#32).ops64 = true := by decide +kernel

/-- The largest sum that fits and the first that does not. -/
theorem witness_TrappingSums :
    (let z := lowInt ((two 0x7FFFFFFE#64 1#64).getX 1) + lowInt ((two 0x7FFFFFFE#64 1#64).getX 2);
      -(2 ^ (32 - 1)) ≤ z ∧ z < 2 ^ (32 - 1)) ∧
    (let z := lowInt ((two 0x7FFFFFFF#64 1#64).getX 1) + lowInt ((two 0x7FFFFFFF#64 1#64).getX 2);
      ¬(-(2 ^ (32 - 1)) ≤ z ∧ z < 2 ^ (32 - 1))) ∧
    (two 0x7FFFFFFFFFFFFFFF#64 1#64).ops64 = true ∧
    (let z := ((two 0x7FFFFFFFFFFFFFFF#64 1#64).getX 1).toInt + ((two 0x7FFFFFFFFFFFFFFF#64 1#64).getX 2).toInt;
      ¬(-(2 ^ (64 - 1)) ≤ z ∧ z < 2 ^ (64 - 1))) := by decide +kernel

theorem witness_WordShifts : 31 < 32 := by decide

theorem witness_DoublewordShifts : 31 < 32 ∧ State.reset.ops64 = true := by decide

theorem witness_ProductsAndHiLoMoves : State.reset.ops64 = true := by decide

/-- A divisor whose low half is zero and that is not zero itself, a zero divisor, a one. -/
theorem witness_Quotients :
    (lowNat ((two 5#64 0x100000000#64).getX 2) = 0 ∧ (two 5#64 0x100000000#64).getX 2 ≠ 0#64) ∧
      (two 5#64 0#64).ops64 = true ∧ (two 5#64 0#64).getX 2 = 0#64 ∧ lowNat ((two 5#64 1#64).getX 2) ≠ 0 := by
  decide +kernel

theorem witness_JumpsAndLinks :
    ((two 0xFFFFFFFFFFFFFFFF#64 0#64).getX 1).toInt < 0 ∧ ¬((two 0#64 0#64).getX 1).toInt < 0 := by decide +kernel

/-- Each condition met and not met at 0 and beside it; the condition bit 0 and 1 with CU1. -/
theorem witness_ConditionalBranches :
    let x := fun v : DWord => ((two v 0#64).getX 1).toInt
    x 0#64 = 0 ∧ x 1#64 ≠ 0 ∧ 0 < x 1#64 ∧ x 0xFFFFFFFFFFFFFFFF#64 < 0 ∧
      ((fpu true 0#32 0#64 0#64 0#64).cu1 = true ∧ (fpu true 0#32 0#64 0#64 0#64).fcr31.toNat / 2 ^ 23 % 2 = 0) ∧
      (fpu true 0x00800000#32 0#64 0#64 0#64).fcr31.toNat / 2 ^ 23 % 2 = 1 := by decide +kernel

/-- The last byte, halfword, word and the doubleword of an aligned eight bytes, both kinds of access. -/
theorem accessOk_witness (k : AccessKind) :
    let s := memory true 0#64
    AccessOk s k (addressOf s 1 7#16) 1 0x107#36 ∧ AccessOk s k (addressOf s 1 6#16) 2 0x106#36 ∧
      AccessOk s k (addressOf s 1 4#16) 4 0x104#36 ∧ AccessOk s k (addressOf s 1 0#16) 8 0x100#36 := by
  cases k <;> exact ⟨accessOk_of .cached (by decide +kernel), accessOk_of .cached (by decide +kernel),
    accessOk_of .cached (by decide +kernel), accessOk_of .cached (by decide +kernel)⟩

/-- The same through the TLB in user mode, with Status.RE set. -/
theorem accessOk_witness_user (k : AccessKind) :
    AccessOk (user 0x02000030#32) k (addressOf (user 0x02000030#32) 1 0#16) 8 0x1100#36 := by
  cases k <;> exact accessOk_of .cached (by decide +kernel)

theorem witness_AlignedLoads :
    ∃ s pa, AccessOk s .load (addressOf s 1 0#16) 8 pa ∧ s.ops64 = true :=
  ⟨_, _, (accessOk_witness .load).2.2.2, by decide⟩

theorem witness_AlignedStores :
    ∃ s pa, Memory.wf s.mem = true ∧ AccessOk s .store (addressOf s 1 0#16) 8 pa ∧ s.ops64 = true :=
  ⟨_, _, by decide +kernel, (accessOk_witness .store).2.2.2, by decide⟩

/-- A partial access needs no alignment. -/
theorem partOk_witness (k : AccessKind) :
    PartOk (memory true 0#64) k (addressOf (memory true 0#64) 1 3#16) 0x103#36 := by
  cases k <;> exact ⟨⟨.cached, by decide +kernel⟩, (watchHit_false ..).mp (by decide +kernel)⟩

theorem witness_PartialLoads :
    ∃ s pa, PartOk s .load (addressOf s 1 3#16) pa ∧ s.ops64 = true := ⟨_, _, partOk_witness .load, by decide⟩

theorem witness_PartialStores :
    ∃ s pa, Memory.wf s.mem = true ∧ PartOk s .store (addressOf s 1 3#16) pa ∧ s.ops64 = true :=
  ⟨_, _, by decide +kernel, partOk_witness .store, by decide⟩

theorem witness_LoadLinked :
    ∃ s pa qa, s.params.legal = true ∧ AccessOk s .load (addressOf s 1 4#16) 4 pa ∧
      AccessOk s .load (addressOf s 1 0#16) 8 qa ∧ s.ops64 = true :=
  ⟨_, _, _, by decide, (accessOk_witness .load).2.2.1, (accessOk_witness .load).2.2.2, by decide⟩

/-- Without the observer; with it; with it and misaligned. -/
theorem witness_StoreConditional :
    Memory.wf (memory true 0#64).mem = true ∧ (memory true 0#64).llbit = false ∧ (memory true 0#64).ops64 = true ∧
      (let s := { memory true 0#64 with llbit := true };
        s.llbit = true ∧ (addressOf s 1 2#16).toNat % 4 ≠ 0 ∧ (addressOf s 1 4#16).toNat % 8 ≠ 0 ∧
          AccessOk s .store (addressOf s 1 4#16) 4 0x104#36 ∧ AccessOk s .store (addressOf s 1 0#16) 8 0x100#36) :=
  ⟨by decide +kernel, by decide, by decide, by decide, by decide +kernel, by decide +kernel,
    accessOk_of .cached (by decide +kernel), accessOk_of .cached (by decide +kernel)⟩

/-- Each comparison met and not met: signed and unsigned differ on the operands 0 and -1. -/
theorem witness_ConditionalTraps :
    let s := two 0#64 0xFFFFFFFFFFFFFFFF#64
    (s.getX 2).toInt ≤ (s.getX 1).toInt ∧ ¬(s.getX 2).toNat ≤ (s.getX 1).toNat ∧
      ¬(s.getX 1).toInt = (s.getX 2).toInt ∧ (s.getX 1).toInt = (0#16).toInt ∧
      ((s.getX 2).toNat : Int) = (0xFFFF#16).toInt % 2 ^ 64 := by decide +kernel

theorem witness_SystemInstructions : (user 0x10000010#32).cp0Usable = true := by decide +kernel

/-- Wired below and at the size of the TLB; kernel mode, and user mode with CU0 and UX. -/
theorem witness_MoveFromCp0 :
    (let s := { State.reset with cp0 := { State.reset.cp0 with wired := 47#32 } };
      s.cp0Usable = true ∧ s.ops64 = true ∧ s.cp0.wired.toNat % 64 < 48) ∧
    (let s := { State.reset with cp0 := { State.reset.cp0 with wired := 48#32 } };
      s.cp0Usable = true ∧ 48 ≤ s.cp0.wired.toNat % 64) ∧
    ((user 0x10000030#32).cp0Usable = true ∧ (user 0x10000030#32).ops64 = true) := by decide +kernel

theorem witness_MoveToCp0 :
    (user 0x10000030#32).cp0Usable = true ∧ (user 0x10000030#32).ops64 = true ∧ State.reset.cp0Usable = true := by
  decide +kernel

/-- Index 47 and 48, Wired 47 and 48; a probe that finds entry 3, one that finds none, and one that meets an
illegal Mask in entry 3; an illegal Mask beyond the match is not consulted. -/
theorem witness_TlbInstructions :
    (let s := { State.reset with cp0 := { State.reset.cp0 with index := 48#32, wired := 48#32 } };
      s.cp0Usable = true ∧ 48 ≤ s.cp0.index.toNat % 64 ∧ 48 ≤ s.cp0.wired.toNat % 64) ∧
    (let s := { State.reset with cp0 := { State.reset.cp0 with index := 47#32, wired := 47#32 } };
      s.cp0Usable = true ∧ s.cp0.index.toNat % 64 < 48 ∧ s.cp0.wired.toNat % 64 < 48) ∧
    (let s := tlbState true;
      let hit := fun q : Fin 48 => entryMatches s.addr64 s.asid s.cp0.entryHi s.tlb[q.val];
      s.cp0Usable = true ∧ (∀ p : Fin 48, s.tlb[p.val].mask.toNat = 4 ^ 0 - 1) ∧ hit 3 = true ∧
        ∀ p : Fin 48, p < 3 → hit p = false) ∧
    (let s := { tlbState true with cp0 := { (tlbState true).cp0 with entryHi := 0x10004005#64 } };
      s.cp0Usable = true ∧ ∀ p : Fin 48, s.tlb[p.val].mask.toNat = 4 ^ 0 - 1 ∧
        entryMatches s.addr64 s.asid s.cp0.entryHi s.tlb[p.val] = false) ∧
    (let s := { tlbState true with tlb := (tlbState true).tlb.set 3 { tlbExample true with mask := 1#12 } };
      s.cp0Usable = true ∧ (∀ n, n ≤ 6 → s.tlb[3].mask.toNat ≠ 4 ^ n - 1) ∧ ∀ p : Fin 48, p < 3 →
        s.tlb[p.val].mask.toNat = 4 ^ 0 - 1 ∧ entryMatches s.addr64 s.asid s.cp0.entryHi s.tlb[p.val] = false) ∧
    gives (exec .tlbp { tlbState true with tlb := (tlbState true).tlb.set 4 { TlbEntry.zero with mask := 1#12 } })
      (fun t => decide (t.cp0.index = 3#32)) = true := by decide +kernel

theorem witness_TlbRoundTrip :
    (tlbRegs 0x491E#64).cp0.reservedOk (tlbRegs 0x491E#64).params = true ∧ (tlbRegs 0x491E#64).cp0Usable = true ∧
      (tlbRegs 0x491E#64).cp0.index.toNat % 64 < 48 ∧
      gives (exec .tlbwi (tlbRegs 0x491E#64)) (fun t =>
        gives (exec .tlbr t) fun u => decide (u.cp0.entryLo0 = 0x48DE#64)) = true ∧
      gives (exec .tlbp (tlbState true)) (fun _ => true) = true := by decide +kernel

theorem witness_Coprocessor2Stub :
    (user 0x10#32).cu2 = false ∧ (user 0x40000010#32).cu2 = true := by decide +kernel

/-- CTC1 values that leave an enabled cause, an unimplemented-operation cause, and neither. -/
theorem witness_FpMoves :
    (user 0x20000030#32).cu1 = true ∧ (user 0x20000030#32).ops64 = true ∧
      ((0x00010800#32).getLsbD (12 + 4) = true ∧ (0x00010800#32).getLsbD (7 + 4) = true) ∧
      (0x00020000#32).getLsbD 17 = true ∧
      ¬((0x0001F07C#32).getLsbD 17 = true ∨ ∃ j, j < 5 ∧ (0x0001F07C#32).getLsbD (12 + j) = true ∧
        (0x0001F07C#32).getLsbD (7 + j) = true) := by decide +kernel

theorem witness_FpLoadsAndStores :
    let s := fpu true 0#32 0#64 0#64 0#64
    s.cu1 = true ∧ Memory.wf s.mem = true ∧ AccessOk s .load (addressOf s 1 4#16) 4 0x104#36 ∧
      AccessOk s .store (addressOf s 1 4#16) 4 0x104#36 ∧ AccessOk s .load (addressOf s 1 0#16) 8 0x100#36 ∧
      AccessOk s .store (addressOf s 1 0#16) 8 0x100#36 :=
  ⟨by decide, by decide +kernel, accessOk_of .cached (by decide +kernel), accessOk_of .cached (by decide +kernel),
    accessOk_of .cached (by decide +kernel), accessOk_of .cached (by decide +kernel)⟩

/-- The division 1 / 0 with Enable Z set, and 1 + 1 with it. -/
theorem witness_FpArithmetic :
    let s := fpu true 0x400#32 0#64 0x3F800000#64 0#64
    s.cu1 = true ∧
      Enabled s (fpDiv fmtS (s.fcr31.extractLsb' 0 2) (s.fcr31.getLsbD 8) (single s 1) (single s 2)).2 ∧
      ¬Enabled s (fpAdd fmtS (s.fcr31.extractLsb' 0 2) (s.fcr31.getLsbD 8) (single s 1) (single s 1)).2 :=
  ⟨by decide +kernel, ⟨3, by decide +kernel⟩, by
    rintro ⟨j, -, h, -⟩
    rw [show (fpAdd fmtS _ _ (single _ 1) (single _ 1)).2 = 0#5 by decide +kernel] at h
    simp at h⟩

theorem witness_FpSignOperations : (user 0x20000010#32).cu1 = true := by decide +kernel

/-- 2.5 to an integer is inexact: with Enable I set and without. -/
theorem witness_FpToInteger :
    (let s := fpu true 0x80#32 0#64 0x40200000#64 0#64;
      s.cu1 = true ∧ Enabled s 0x01#5) ∧
    (let s := fpu true 0#32 0#64 0x40200000#64 0#64;
      s.cu1 = true ∧ ¬Enabled s 0x01#5) :=
  ⟨⟨by decide +kernel, ⟨0, by decide⟩⟩, by decide +kernel, by
    rintro ⟨j, hj, h⟩
    revert h; revert j; decide⟩

/-- The word 0x01000001 to single is inexact: with Enable I set and without. -/
theorem witness_FpConversions :
    (let s := fpu true 0x80#32 0#64 0x01000001#64 0#64;
      s.cu1 = true ∧ Enabled s (fpOfInt fmtS 0#2 false (Int.bmod (single s 1) (2 ^ 32))).2) ∧
    (let s := fpu true 0#32 0#64 0x01000001#64 0#64;
      s.cu1 = true ∧ ¬Enabled s (fpOfInt fmtS 0#2 false (Int.bmod (single s 1) (2 ^ 32))).2) :=
  ⟨⟨by decide +kernel, ⟨0, by decide +kernel⟩⟩, by decide +kernel, by
    rintro ⟨j, hj, -, h⟩
    revert h; revert j; decide +kernel⟩

/-- An invalid comparison with Enable V set, and one with no flag. -/
theorem witness_FpCompares :
    let s := fpu true 0x800#32 0#64 0x3F800000#64 0x40000000#64
    s.cu1 = true ∧ Enabled s 0x10#5 ∧ ¬Enabled s 0#5 :=
  ⟨by decide, ⟨4, by decide⟩, by rintro ⟨j, -, h, -⟩; simp at h⟩

/-- The finite patterns of 1, -1, 0 and the least positive number, in both formats, and an infinity and a NaN. -/
theorem pattern_witness :
    (fpRat fmtS 0x3F800000 = some 1 ∧ fpRat fmtS 0xBF800000 = some (-1) ∧ fpRat fmtS 0 = some 0 ∧
        fpRat fmtS 1 = some (1 / 2 ^ 149) ∧ IsInf fmtS false 0x7F800000 ∧ IsInf fmtS true 0xFF800000 ∧
        IsNaN fmtS 0x7F800001) ∧
      (fpRat fmtD 0x3FF0000000000000 = some 1 ∧ fpRat fmtD 0xBFF0000000000000 = some (-1) ∧ fpRat fmtD 0 = some 0 ∧
        fpRat fmtD 1 = some (1 / 2 ^ 1074) ∧ IsInf fmtD false 0x7FF0000000000000 ∧
        IsInf fmtD true 0xFFF0000000000000 ∧ IsNaN fmtD 0x7FF0000000000001) := by
  simp only [fpRat, IsInf, IsNaN, fmtS, fmtD]
  norm_num

theorem witness_FpOrderIsNumeric :
    (0x3F800000 < 2 ^ fmtS.width ∧ 0xFF800000 < 2 ^ fmtS.width) ∧
      (∃ x y, fpRat fmtS 0x3F800000 = some x ∧ fpRat fmtS 0xBF800000 = some y) ∧ IsInf fmtS true 0xFF800000 :=
  ⟨by decide, ⟨_, _, pattern_witness.1.1, pattern_witness.1.2.1⟩, pattern_witness.1.2.2.2.2.2.1⟩

theorem witness_FpResultsCorrectlyRounded :
    0x3F800000 < 2 ^ fmtS.width ∧ 1 < 2 ^ fmtS.width ∧ ∃ x y, fpRat fmtS 0x3F800000 = some x ∧
      fpRat fmtS 1 = some y ∧ x + y ≠ 0 ∧ x - y ≠ 0 ∧ x * y ≠ 0 ∧ x ≠ 0 ∧ y ≠ 0 :=
  ⟨by decide, by decide, _, _, pattern_witness.1.1, pattern_witness.1.2.2.2.1, by norm_num⟩

theorem witness_FpSquareRootCorrectlyRounded :
    1 < 2 ^ fmtD.width ∧ ∃ x, fpRat fmtD 1 = some x ∧ 0 < x :=
  ⟨by decide, _, pattern_witness.2.2.2.2.1, by norm_num⟩

theorem witness_FpSpecialOperands :
    (IsNaN fmtS 0x7F800001 ∧ IsInf fmtS false 0x7F800000 ∧ IsInf fmtS true 0xFF800000) ∧
      (∃ x, fpRat fmtS 0xBF800000 = some x ∧ x < 0) ∧ (∃ x, fpRat fmtS 0x3F800000 = some x ∧ x ≠ 0) ∧
      (∃ x y, fpRat fmtS 0x3F800000 = some x ∧ fpRat fmtS 0xBF800000 = some y ∧ x + y = 0) ∧
      (∃ x y, fpRat fmtS 0x3F800000 = some x ∧ fpRat fmtS 0x3F800000 = some y ∧ x - y = 0) ∧
      (∃ x y, fpRat fmtS 0 = some x ∧ fpRat fmtS 0x3F800000 = some y ∧ x * y = 0 ∧ x = 0 ∧ y ≠ 0) ∧
      fpRat fmtS 0 = some 0 :=
  have p := pattern_witness.1
  ⟨⟨p.2.2.2.2.2.2, p.2.2.2.2.1, p.2.2.2.2.2.1⟩, ⟨_, p.2.1, by norm_num⟩, ⟨_, p.1, by norm_num⟩,
    ⟨_, _, p.1, p.2.1, by norm_num⟩, ⟨_, _, p.1, p.1, by norm_num⟩, ⟨_, _, p.2.2.1, p.1, by norm_num⟩, p.2.2.1⟩

end Sys2Proof.Machine
end

section
/-! PROOFS. The number a read of memory spells in the byte order of the bus (R104), and what a completed fetch read
(R112). -/

namespace Sys2Proof.Machine

theorem numberAt_succ_big (s : State) (a n : Nat) (h : s.params.bigEndian = true) :
    numberAt s a (n + 1) = 256 * numberAt s a n + (Memory.readByte s.mem (a + n)).toNat := by
  simp [numberAt, h, List.range_succ]

/-- Reading a list of bytes from its end with a start value puts that value above the list's own number. -/
theorem foldr_bytes_start (l : List Nat) (z : Nat) :
    l.foldr (fun b acc => b + 256 * acc) z = l.foldr (fun b acc => b + 256 * acc) 0 + 256 ^ l.length * z := by
  induction l with
  | nil => simp
  | cons b rest ih =>
    simp only [List.foldr_cons, List.length_cons]
    rw [ih, pow_succ]
    ring

theorem numberAt_succ_little (s : State) (a n : Nat) (h : s.params.bigEndian = false) :
    numberAt s a (n + 1) = numberAt s a n + 256 ^ n * (Memory.readByte s.mem (a + n)).toNat := by
  simp only [numberAt, h, List.range_succ, List.map_append, List.foldr_append]
  simpa using foldr_bytes_start
    ((List.range n).map fun i => (Memory.readByte s.mem (a + i)).toNat) (Memory.readByte s.mem (a + n)).toNat

theorem numberAt_lt (s : State) (a n : Nat) : numberAt s a n < 256 ^ n := by
  induction n with
  | zero => simp [numberAt]
  | succ n ih =>
    have hb := (Memory.readByte s.mem (a + n)).isLt
    cases h : s.params.bigEndian with
    | true => rw [numberAt_succ_big s a n h, pow_succ]; omega
    | false =>
      rw [numberAt_succ_little s a n h, pow_succ]
      have := Nat.mul_le_mul_left (256 ^ n) (show (Memory.readByte s.mem (a + n)).toNat + 1 ≤ 256 by omega)
      rw [Nat.mul_add] at this
      omega

/-- Moving every lane of a read up by one byte moves the value up by one byte. -/
theorem foldl_lanes_shift (x : Nat → DWord) (lane up : Nat → Nat) (l : List Nat) (acc : DWord)
    (h : ∀ i ∈ l, up i = lane i + 8) :
    l.foldl (fun acc i => acc ||| x i <<< up i) (acc <<< 8) =
      l.foldl (fun acc i => acc ||| x i <<< lane i) acc <<< 8 := by
  induction l generalizing acc with
  | nil => rfl
  | cons i rest ih =>
    have hi : acc <<< 8 ||| x i <<< up i = (acc ||| x i <<< lane i) <<< 8 := by
      rw [h i (List.mem_cons_self ..), BitVec.shiftLeft_or_distrib, BitVec.shiftLeft_add]
    simp only [List.foldl_cons]
    rw [hi]
    exact ih _ fun j hj => h j (List.mem_cons_of_mem _ hj)

theorem memRead_succ_big (m : Memory) (a n : Nat) :
    memRead true m a (n + 1) = memRead true m a n <<< 8 ||| (Memory.readByte m (a + n)).setWidth 64 := by
  have hup : ∀ i ∈ List.range n, byteLane true (n + 1) i = byteLane true n i + 8 := by
    intro i hi
    have := List.mem_range.1 hi
    simp only [byteLane, if_true]
    omega
  have hs := foldl_lanes_shift (fun i => (Memory.readByte m (a + i)).setWidth 64) _ _ _ 0#64 hup
  rw [memRead, List.range_succ, List.foldl_append, memRead, ← hs]
  simp [byteLane]

theorem memRead_succ_little (m : Memory) (a n : Nat) :
    memRead false m a (n + 1) =
      memRead false m a n ||| (Memory.readByte m (a + n)).setWidth 64 <<< (8 * n) := by
  simp [memRead, byteLane, List.range_succ]

/-- A read of at most eight bytes is the number they spell in the byte order of the bus (R104). -/
theorem memRead_toNat (s : State) (a n : Nat) (hn : n ≤ 8) :
    (memRead s.params.bigEndian s.mem a n).toNat = numberAt s a n := by
  induction n with
  | zero => simp [memRead, numberAt]
  | succ n ih =>
    have hv := ih (by omega)
    have hlt : numberAt s a n < 256 ^ n := numberAt_lt s a n
    have hb := (Memory.readByte s.mem (a + n)).isLt
    have hpow : (256 : Nat) ^ n = 2 ^ (8 * n) := (pow_mul 2 8 n).symm
    have htop : 2 ^ (8 * n) * 2 ^ 8 ≤ 2 ^ 64 := by
      rw [← pow_add]; exact Nat.pow_le_pow_right (by decide) (by omega)
    rw [hpow] at hlt
    cases he : s.params.bigEndian with
    | true =>
      rw [he] at hv
      rw [numberAt_succ_big s a n he, memRead_succ_big, BitVec.toNat_or, BitVec.toNat_shiftLeft, hv,
        BitVec.toNat_setWidth_of_le (by decide), Nat.mod_eq_of_lt (by rw [Nat.shiftLeft_eq]; omega),
        ← Nat.shiftLeft_add_eq_or_of_lt hb, Nat.shiftLeft_eq]
      omega
    | false =>
      rw [he] at hv
      have hup := Nat.mul_lt_mul_of_pos_right hb (Nat.two_pow_pos (8 * n))
      rw [numberAt_succ_little s a n he, memRead_succ_little, BitVec.toNat_or, hv, BitVec.toNat_shiftLeft,
        BitVec.toNat_setWidth_of_le (by decide), Nat.mod_eq_of_lt (by rw [Nat.shiftLeft_eq]; omega), Nat.or_comm,
        ← Nat.shiftLeft_add_eq_or_of_lt hlt, Nat.shiftLeft_eq, hpow, Nat.mul_comm, Nat.add_comm]

/-- What a completed fetch read: the word whose number the four bytes spell (R112). -/
theorem fetch_done (s : State) (va : DWord) (w : Word) (h : fetch s va = .done w) :
    ∃ pa, AccessOk s .fetch va 4 pa ∧ w = BitVec.ofNat 32 (numberAt s pa.toNat 4) := by
  unfold fetch at h
  split at h
  next pa hc =>
    refine ⟨pa, (checkedLocate_done ..).1 hc, ?_⟩
    simp only [Access.done.injEq] at h
    rw [← memRead_toNat s pa.toNat 4 (by decide), ← h]
    rfl
  all_goals simp at h

end Sys2Proof.Machine
end

section
/-! PROOFS. The invariant of the machine: every instruction keeps `MidInv`, template by template, and the end of a step
restores the boundary. -/

namespace Sys2Proof.Machine

/-- The numbers a probe writes to Index leave its reserved bits zero. -/
theorem probeScan_reserved (s : State) (va : DWord) (l : List (Fin 48)) (v : Word)
    (h : s.probeScan va l = some v) : v &&& ~~~0x8000003F#32 = 0#32 := by
  obtain ⟨hp, -⟩ | ⟨-, i, -, -, -, ⟨-, hn⟩ | ⟨-, -, hi⟩⟩ := probeScan_spec s va l
  · obtain rfl : 0x80000000#32 = v := Option.some.inj (hp.symm.trans h)
    decide
  · simp [hn] at h
  · have small : ∀ i : Fin 48, BitVec.ofNat 32 i.val &&& ~~~0x8000003F#32 = 0#32 := by decide
    obtain rfl : BitVec.ofNat 32 i.val = v := Option.some.inj (hi.symm.trans h)
    exact small i

theorem MidInv.setIndex {s : State} (h : MidInv s) (v : Word) (hv : v &&& ~~~0x8000003F#32 = 0#32) :
    MidInv { s with cp0 := { s.cp0 with index := v } } := by
  refine h.withCp0 ?_ rfl rfl rfl rfl rfl rfl rfl rfl
  have hc := h.cp0Reserved
  simp only [Cp0.reservedOk, Bool.and_eq_true, decide_eq_true_eq] at hc ⊢
  simp only [hv, hc, and_self]

theorem Keeps.execTlbr {s : State} (h : MidInv s) : Keeps (execTlbr s) := by
  refine .guardCp0 h (.next ?_)
  split
  · exact h.withCp0 (Cp0.loadEntry_reserved _ _ _ h.cp0Reserved) rfl rfl rfl rfl rfl rfl rfl rfl
  · exact h

theorem Keeps.execTlbp {s : State} (h : MidInv s) : Keeps (execTlbp s) := by
  refine .guardCp0 h ?_
  split
  next v hv => exact .next (h.setIndex v (probeScan_reserved _ _ _ _ hv))
  next => exact .refused _

theorem MidInv.writeFcr {s : State} (h : MidInv s) (n : CReg) (v : Word) : MidInv (s.writeFcr n v) := by
  have hw : MidInv { s with fcr31 := v &&& fcr31Mask } := h.setFcr31 _ (and_mask_not _ _)
  unfold State.writeFcr
  split
  · dsimp only
    split
    · exact hw.raise _
    · exact hw
  · exact h

/-- Every instruction keeps the part of the invariant that holds inside a step. -/
theorem Keeps.exec {s : State} (h : MidInv s) (i : Instr) : Keeps (exec i s) := by
  unfold Machine.exec
  cases i with
  | add | sub | addi => exact .overflowOr h _ _ _
  | dadd | dsub | daddi => exact .guardOps64 h (.overflowOr h _ _ _)
  | addu | subu | and | or | xor | nor | slt | sltu | addiu | slti | sltiu | andi | ori | xori | lui
  | sll | srl | sra | sllv | srlv | srav | mfhi | mflo => exact .next (h.setX _ _)
  | daddu | dsubu | daddiu | dsll | dsrl | dsra | dsll32 | dsrl32 | dsra32 | dsllv | dsrlv | dsrav =>
    exact .guardOps64 h (.next (h.setX _ _))
  | mult | multu | mthi | mtlo => exact .next (h.setHiLo _ _)
  | dmult | dmultu => exact .guardOps64 h (.next (h.setHiLo _ _))
  | div | divu => exact .ite h (h.setHiLo _ _)
  | ddiv | ddivu => exact .guardOps64 h (.ite h (h.setHiLo _ _))
  | j | jr => exact .next (h.takeBranch _)
  | jal | jalr => exact .next ((h.setX _ _).takeBranch _)
  | beq | bne | blez | bgtz | bltz | bgez => exact .next (h.branchIf _ _)
  | beql | bnel | blezl | bgtzl | bltzl | bgezl => exact .next (h.branchLikely _ _)
  | bltzal | bgezal => exact .next ((h.setX _ _).branchIf _ _)
  | bltzall | bgezall => exact .next ((h.setX _ _).branchLikely _ _)
  | lb | lbu | lh | lhu | lw => exact .loadReg h _ _ _ _
  | lwu | ld => exact .guardOps64 h (.loadReg h _ _ _ _)
  | sb | sh | sw => exact .storeReg h _ _ _ (by decide)
  | sd => exact .guardOps64 h (.storeReg h _ _ _ (by decide))
  | lwl => exact .loadLeft h _ _ _ _ (by decide)
  | lwr => exact .loadRight h _ _ _ _ (by decide)
  | ldl => exact .guardOps64 h (.loadLeft h _ _ _ _ (by decide))
  | ldr => exact .guardOps64 h (.loadRight h _ _ _ _ (by decide))
  | swl => exact .storeLeft h _ _ _ (by decide)
  | swr => exact .storeRight h _ _ _ (by decide)
  | sdl => exact .guardOps64 h (.storeLeft h _ _ _ (by decide))
  | sdr => exact .guardOps64 h (.storeRight h _ _ _ (by decide))
  | ll => exact .loadLinked h _ _ _ _
  | lld => exact .guardOps64 h (.loadLinked h _ _ _ _)
  | sc => exact .storeConditional h _ _ _ (by decide)
  | scd => exact .guardOps64 h (.storeConditional h _ _ _ (by decide))
  | tge | tgeu | tlt | tltu | teq | tne | tgei | tgeiu | tlti | tltiu | teqi | tnei => exact .trapIf h _
  | syscall | breakI => exact .next (h.raise _)
  | sync => exact .next h
  | cache => exact .guardCp0 h (.next h)
  | mfc0 => exact .guardCp0 h (.next (h.setX _ _))
  | dmfc0 => exact .guardCp0 h (.guardOps64 h (.next (h.setX _ _)))
  | mtc0 => exact .guardCp0 h (.next (h.wrCp0 _ _))
  | dmtc0 => exact .guardCp0 h (.guardOps64 h (.next (h.wrCp0 _ _)))
  | tlbr => exact .execTlbr h
  | tlbwi | tlbwr => exact .guardCp0 h (.next (h.writeTlb _ _))
  | tlbp => exact .execTlbp h
  | eret => exact .guardCp0 h (.next h.returnFromException)
  | cop2 | lwc2 | ldc2 | swc2 | sdc2 => exact .cop2 h
  | mfc1 | cfc1 => exact .guardCp1 h (.next (h.setX _ _))
  | dmfc1 => exact .guardCp1 h (.guardOps64 h (.withF64 _ _ fun _ => .next (h.setX _ _)))
  | mtc1 => exact .guardCp1 h (.next (h.writeF32 _ _))
  | dmtc1 => exact .guardCp1 h (.guardOps64 h (.commitF64 h _ _))
  | ctc1 => exact .guardCp1 h (.next (h.writeFcr _ _))
  | bc1f | bc1t => exact .guardCp1 h (.next (h.branchIf _ _))
  | bc1fl | bc1tl => exact .guardCp1 h (.next (h.branchLikely _ _))
  | lwc1 => exact .guardCp1 h (.loadThen h _ _ _ fun _ => .next (h.writeF32 _ _))
  | ldc1 => exact .guardCp1 h (.loadThen h _ _ _ fun _ => .commitF64 h _ _)
  | swc1 => exact .guardCp1 h (.storeThen h _ _ _ _ (by decide) fun _ hr => .next hr)
  | sdc1 =>
    exact .guardCp1 h (.withF64 _ _ fun _ => .storeThen h _ _ _ _ (by decide) fun _ hr => .next hr)
  | addS | subS | mulS | divS => exact .binaryS h _ _ _ _
  | addD | subD | mulD | divD => exact .binaryD h _ _ _ _
  | absS | movS | negS => exact .guardCp1 h (.next (h.writeF32 _ _))
  | absD | movD | negD => exact .guardCp1 h (.withF64 _ _ fun _ => .commitF64 h _ _)
  | sqrtS | roundWS | truncWS | ceilWS | floorWS | cvtSW | cvtWS => exact .unarySS h _ _ _
  | roundLS | truncLS | ceilLS | floorLS | cvtDS | cvtDW | cvtLS => exact .unarySD h _ _ _
  | roundWD | truncWD | ceilWD | floorWD | cvtSD | cvtSL | cvtWD => exact .unaryDS h _ _ _
  | sqrtD | roundLD | truncLD | ceilLD | floorLD | cvtDL | cvtLD => exact .unaryDD h _ _ _
  | cFS | cUnS | cEqS | cUeqS | cOltS | cUltS | cOleS | cUleS | cSfS | cNgleS | cSeqS | cNglS | cLtS | cNgeS
  | cLeS | cNgtS => exact .compareS h _ _ _
  | cFD | cUnD | cEqD | cUeqD | cOltD | cUltD | cOleD | cUleD | cSfD | cNgleD | cSeqD | cNglD | cLtD | cNgeD
  | cLeD | cNgtD => exact .compareD h _ _ _

/-- The end of a step turns what holds inside it into the invariant of the boundary (R221). -/
theorem MidInv.inv_endStep {s : State} (h : MidInv s) (o : Option Instr) : (Machine.endStep o s).Inv := by
  refine .of_mid (h.endStep o) ?_
  obtain hb | hb := advance_atBoundary s <;> simp [hb, BState.atBoundary]

/-- Settles O8: the inputs of the boundary, the interrupt, the fetch, every instruction and every reserved word
keep `MidInv`, and the end of the step restores the boundary. -/
theorem stepKeepsInvariant : Obligations.StepKeepsInvariant := by
  intro s t hs hstep
  have hb : MidInv (beginStep s) := (MidInv.of_inv hs).beginStep
  obtain ⟨-, rfl⟩ | ⟨-, ⟨u, hu, rfl⟩ | ⟨w, -, ⟨i, u, -, hu, rfl⟩ | ⟨k, u, -, hu, rfl⟩⟩⟩ := step_next s t hstep
  · exact (hb.raise _).inv_endStep _
  · exact (hb.accessRaised _ _ (fetch_raised _ _ _ hu)).forceX0.inv_endStep _
  · exact (Keeps.exec hb i u hu).forceX0.inv_endStep _
  · exact (Keeps.execReserved hb k u hu).forceX0.inv_endStep _

end Sys2Proof.Machine
end

section
/-! PROOFS. The TLB array: each shared operation leaves it alone, so only TLBWI and TLBWR change it (R39, R448, R449). -/

namespace Sys2Proof.Machine

/-- Every next state a result gives has the TLB array of `s`. -/
def KeepsTlb (s : State) (r : Result) : Prop := ∀ t, r = .next t → t.tlb = s.tlb

/-! ## The shared operations -/

theorem KeepsTlb.next {s t : State} (h : t.tlb = s.tlb) : KeepsTlb s (.next t) := by
  rintro u hu
  obtain rfl := Host.Outcome.next.inj hu
  exact h

theorem KeepsTlb.refused {s : State} (q : Refusal) : KeepsTlb s (.refused q) := by
  intro t ht
  simp at ht

theorem KeepsTlb.guardOps64 {s : State} {r : Result} (h : KeepsTlb s r) : KeepsTlb s (guardOps64 s r) := by
  intro t ht
  obtain hr | rfl := guardOps64_next s t r ht
  · exact h t hr
  · exact raise_tlb ..

theorem KeepsTlb.guardCp0 {s : State} {r : Result} (h : KeepsTlb s r) : KeepsTlb s (guardCp0 s r) := by
  intro t ht
  obtain hr | rfl := guardCp0_next s t r ht
  · exact h t hr
  · exact raiseCpU_tlb ..

theorem KeepsTlb.guardCp1 {s : State} {r : Result} (h : KeepsTlb s r) : KeepsTlb s (guardCp1 s r) := by
  intro t ht
  obtain hr | rfl := guardCp1_next s t r ht
  · exact h t hr
  · exact raiseCpU_tlb ..

theorem KeepsTlb.cop2Stub (s : State) : KeepsTlb s (cop2Stub s) := by
  intro t ht
  rw [cop2Stub_next s t ht, raiseCpU_tlb]

theorem KeepsTlb.trapIf (s : State) (c : Bool) : KeepsTlb s (trapIf s c) := by
  intro t ht
  obtain rfl | rfl := trapIf_next s t c ht
  · rfl
  · exact raise_tlb ..

theorem KeepsTlb.ite {s a b : State} {c : Prop} [Decidable c] (ha : a.tlb = s.tlb) (hb : b.tlb = s.tlb) :
    KeepsTlb s (.next (if c then a else b)) := by
  refine .next ?_
  split
  · exact ha
  · exact hb

/-- The exceptions an access raises leave the TLB array alone. -/
theorem accessRaised_tlb {s t : State} {k : AccessKind} {va : DWord}
    (h : t = s.raise .watch ∨ t = s.raiseAddressError k va ∨ ∃ m, t = s.raiseTlb m k va) : t.tlb = s.tlb := by
  obtain rfl | rfl | ⟨m, rfl⟩ := h <;> simp

theorem KeepsTlb.loadThen {s : State} {va : DWord} {n : Nat} {k : PAddr × DWord → Result}
    (hk : ∀ r, KeepsTlb s (k r)) : KeepsTlb s ((load s va n).andThen k) := by
  intro t ht
  obtain ⟨r, -, hr⟩ | hr := andThen_next _ _ _ ht
  · exact hk r t hr
  · exact accessRaised_tlb (load_raised _ _ _ _ hr)

theorem KeepsTlb.storeThen {s u : State} {va : DWord} {n : Nat} {v : DWord} {k : State → Result}
    (h : u.tlb = s.tlb) (hk : ∀ w, w.tlb = s.tlb → KeepsTlb s (k w)) : KeepsTlb s ((store u va n v).andThen k) := by
  intro t ht
  obtain ⟨w, hw, hv⟩ | hr := andThen_next _ _ _ ht
  · obtain ⟨pa, -, rfl⟩ := store_done _ _ _ _ _ hw
    exact hk _ ((writeCells_tlb ..).trans h) t hv
  · exact (accessRaised_tlb (store_raised _ _ _ _ _ hr)).trans h

theorem KeepsTlb.partThen {s : State} {a : AccessKind} {va : DWord} {n : Nat} {k : Nat × Nat → Result}
    (hk : ∀ r, KeepsTlb s (k r)) : KeepsTlb s ((partAddr s a va n).andThen k) := by
  intro t ht
  obtain ⟨r, -, hr⟩ | hr := andThen_next _ _ _ ht
  · exact hk r t hr
  · exact accessRaised_tlb (partAddr_raised _ _ _ _ _ hr)

theorem KeepsTlb.storeConditional (s : State) (rt : Reg) (va : DWord) (n : Nat) :
    KeepsTlb s (storeConditional s rt va n) := by
  unfold Machine.storeConditional
  split
  · exact storeThen rfl fun _ hu => .next ((setX_tlb ..).trans hu)
  · exact .next (setX_tlb ..)

theorem KeepsTlb.withF64 {s : State} {n : FReg} {k : DWord → Result} (hk : ∀ v, KeepsTlb s (k v)) :
    KeepsTlb s (withF64 s n k) := fun t ht => hk _ t (withF64_next _ _ _ _ ht)

theorem KeepsTlb.commitF64 {s u : State} {n : FReg} {v : DWord} (h : u.tlb = s.tlb) :
    KeepsTlb s (commitF64 u n v) := by
  intro t ht
  rw [commitF64_next _ _ _ _ ht]
  exact h

theorem KeepsTlb.fpFinish {s : State} {fl : FpFlags} {commit : State → Result}
    (hc : ∀ u, u.tlb = s.tlb → KeepsTlb s (commit u)) : KeepsTlb s (fpFinish s fl commit) := by
  intro t ht
  obtain ⟨-, rfl⟩ | ⟨-, hu⟩ := fpFinish_next s t fl commit ht
  · exact raise_tlb ..
  · refine hc _ ?_ t hu
    rfl

/-- A floating-point result written to a single register, or refused. -/
theorem KeepsTlb.fpFinishS {s : State} {fl : FpFlags} {fd : FReg} {b : Nat} :
    KeepsTlb s (Machine.fpFinish s fl (commitS fd b)) := .fpFinish fun _ hu => .next ((writeF32_tlb ..).trans hu)

/-- A floating-point result written to a double register, or refused. -/
theorem KeepsTlb.fpFinishD {s : State} {fl : FpFlags} {fd : FReg} {b : Nat} :
    KeepsTlb s (Machine.fpFinish s fl (commitD fd b)) := .fpFinish fun _ hu => .commitF64 hu

/-- The end of a comparison. -/
theorem KeepsTlb.fpFinishC {s : State} {fl : FpFlags} {c : Bool} :
    KeepsTlb s (Machine.fpFinish s fl (commitC c)) := .fpFinish fun _ hu => .next hu

theorem writeFcr_tlb (s : State) (n : CReg) (v : Word) : (s.writeFcr n v).tlb = s.tlb := by
  unfold State.writeFcr
  split
  · dsimp only
    split <;> simp
  · rfl

theorem KeepsTlb.execTlbr (s : State) : KeepsTlb s (execTlbr s) := by
  refine .guardCp0 (.next ?_)
  split <;> rfl

theorem KeepsTlb.execTlbp (s : State) : KeepsTlb s (execTlbp s) := by
  refine .guardCp0 ?_
  split
  · exact .next rfl
  · exact .refused _

/-- No instruction but TLBWI and TLBWR changes a TLB entry (R39). -/
theorem KeepsTlb.exec (s : State) (i : Instr) (hwi : i ≠ .tlbwi) (hwr : i ≠ .tlbwr) : KeepsTlb s (exec i s) := by
  unfold Machine.exec
  cases i with
  | tlbwi => exact absurd rfl hwi
  | tlbwr => exact absurd rfl hwr
  | add | sub | addi => exact .ite (raise_tlb ..) (setX_tlb ..)
  | dadd | dsub | daddi => exact .guardOps64 (.ite (raise_tlb ..) (setX_tlb ..))
  | addu | subu | and | or | xor | nor | slt | sltu | addiu | slti | sltiu | andi | ori | xori | lui
  | sll | srl | sra | sllv | srlv | srav | mfhi | mflo => exact .next (setX_tlb ..)
  | daddu | dsubu | daddiu | dsll | dsrl | dsra | dsll32 | dsrl32 | dsra32 | dsllv | dsrlv | dsrav =>
    exact .guardOps64 (.next (setX_tlb ..))
  | mult | multu | mthi | mtlo | j | jr | sync => exact .next rfl
  | dmult | dmultu => exact .guardOps64 (.next rfl)
  | div | divu => exact .ite rfl rfl
  | ddiv | ddivu => exact .guardOps64 (.ite rfl rfl)
  | jal | jalr => exact .next (setX_tlb ..)
  | beq | bne | blez | bgtz | bltz | bgez => exact .next (branchIf_tlb ..)
  | beql | bnel | blezl | bgtzl | bltzl | bgezl => exact .next (branchLikely_tlb ..)
  | bltzal | bgezal => exact .next ((branchIf_tlb ..).trans (setX_tlb ..))
  | bltzall | bgezall => exact .next ((branchLikely_tlb ..).trans (setX_tlb ..))
  | lb | lbu | lh | lhu | lw | ll => exact .loadThen fun _ => .next (setX_tlb ..)
  | lwu | ld | lld => exact .guardOps64 (.loadThen fun _ => .next (setX_tlb ..))
  | sb | sh | sw => exact .storeThen rfl fun _ hu => .next hu
  | sd => exact .guardOps64 (.storeThen rfl fun _ hu => .next hu)
  | lwl | lwr => exact .partThen fun _ => .next (setX_tlb ..)
  | ldl | ldr => exact .guardOps64 (.partThen fun _ => .next (setX_tlb ..))
  | swl | swr => exact .partThen fun _ => .next rfl
  | sdl | sdr => exact .guardOps64 (.partThen fun _ => .next rfl)
  | sc => exact .storeConditional s _ _ _
  | scd => exact .guardOps64 (.storeConditional s _ _ _)
  | tge | tgeu | tlt | tltu | teq | tne | tgei | tgeiu | tlti | tltiu | teqi | tnei => exact .trapIf s _
  | syscall | breakI => exact .next (raise_tlb ..)
  | cache => exact .guardCp0 (.next rfl)
  | mfc0 => exact .guardCp0 (.next (setX_tlb ..))
  | dmfc0 => exact .guardCp0 (.guardOps64 (.next (setX_tlb ..)))
  | mtc0 => exact .guardCp0 (.next (wrCp0_tlb ..))
  | dmtc0 => exact .guardCp0 (.guardOps64 (.next (wrCp0_tlb ..)))
  | tlbr => exact .execTlbr s
  | tlbp => exact .execTlbp s
  | eret => exact .guardCp0 (.next (returnFromException_tlb ..))
  | cop2 | lwc2 | ldc2 | swc2 | sdc2 => exact .cop2Stub s
  | mfc1 | cfc1 => exact .guardCp1 (.next (setX_tlb ..))
  | dmfc1 => exact .guardCp1 (.guardOps64 (.withF64 fun _ => .next (setX_tlb ..)))
  | mtc1 | absS | movS | negS => exact .guardCp1 (.next (writeF32_tlb ..))
  | dmtc1 => exact .guardCp1 (.guardOps64 (.commitF64 rfl))
  | ctc1 => exact .guardCp1 (.next (writeFcr_tlb ..))
  | bc1f | bc1t => exact .guardCp1 (.next (branchIf_tlb ..))
  | bc1fl | bc1tl => exact .guardCp1 (.next (branchLikely_tlb ..))
  | lwc1 => exact .guardCp1 (.loadThen fun _ => .next (writeF32_tlb ..))
  | ldc1 => exact .guardCp1 (.loadThen fun _ => .commitF64 rfl)
  | swc1 => exact .guardCp1 (.storeThen rfl fun _ hu => .next hu)
  | sdc1 => exact .guardCp1 (.withF64 fun _ => .storeThen rfl fun _ hu => .next hu)
  | absD | movD | negD => exact .guardCp1 (.withF64 fun _ => .commitF64 rfl)
  | addS | subS | mulS | divS | sqrtS | roundWS | truncWS | ceilWS | floorWS | cvtSW | cvtWS =>
    exact .guardCp1 .fpFinishS
  | roundLS | truncLS | ceilLS | floorLS | cvtDS | cvtDW | cvtLS => exact .guardCp1 .fpFinishD
  | roundWD | truncWD | ceilWD | floorWD | cvtSD | cvtSL | cvtWD =>
    exact .guardCp1 (.withF64 fun _ => .fpFinishS)
  | sqrtD | roundLD | truncLD | ceilLD | floorLD | cvtDL | cvtLD =>
    exact .guardCp1 (.withF64 fun _ => .fpFinishD)
  | addD | subD | mulD | divD => exact .guardCp1 (.withF64 fun _ => .withF64 fun _ => .fpFinishD)
  | cFS | cUnS | cEqS | cUeqS | cOltS | cUltS | cOleS | cUleS | cSfS | cNgleS | cSeqS | cNglS | cLtS | cNgeS
  | cLeS | cNgtS => exact .guardCp1 .fpFinishC
  | cFD | cUnD | cEqD | cUeqD | cOltD | cUltD | cOleD | cUleD | cSfD | cNgleD | cSeqD | cNglD | cLtD | cNgeD
  | cLeD | cNgtD => exact .guardCp1 (.withF64 fun _ => .withF64 fun _ => .fpFinishC)

/-! ## The rest of a step -/

theorem KeepsTlb.execReserved (s : State) (k : ReservedKind) : KeepsTlb s (execReserved k s) := by
  cases k with
  | plain => exact .next (raise_tlb ..)
  | cop0 => exact .guardCp0 (.next (raise_tlb ..))
  | cop1 => exact .guardCp1 (.next (raise_tlb ..))

theorem applyInput_tlb (s : State) (i : HostInput) : (applyInput s i).tlb = s.tlb := by
  cases i <;> rfl

theorem takeInputs_tlb (s : State) : (takeInputs s).tlb = s.tlb := by
  have fold : ∀ (l : List HostInput) (u : State), (l.foldl applyInput u).tlb = u.tlb := by
    intro l
    induction l with
    | nil => exact fun _ => rfl
    | cons i rest ih => exact fun u => (ih _).trans (applyInput_tlb u i)
  unfold takeInputs
  split
  · rfl
  · exact fold _ _

@[simp] theorem beginStep_tlb (s : State) : (beginStep s).tlb = s.tlb := takeInputs_tlb s

theorem fetch_raised_tlb (s t : State) (va : DWord) (h : fetch s va = .raised t) : t.tlb = s.tlb :=
  accessRaised_tlb (fetch_raised s t va h)

/-- A step that changes the TLB array took no interrupt, and executed a TLBWI or TLBWR it fetched. -/
theorem step_tlb_ne (s t : State) (h : step s = .next t) (hne : t.tlb ≠ s.tlb) :
    (beginStep s).interruptTaken = false ∧ ∃ w i, fetch (beginStep s) (beginStep s).pc = .done w ∧
      decode w = .instr i ∧ (i = .tlbwi ∨ i = .tlbwr) := by
  obtain ⟨-, rfl⟩ | ⟨hint, ⟨u, hu, rfl⟩ | ⟨w, hw, ⟨i, u, hi, hu, rfl⟩ | ⟨k, u, -, hu, rfl⟩⟩⟩ := step_next s t h
  · exact absurd (by simp) hne
  · exact absurd (by simp [fetch_raised_tlb _ _ _ hu]) hne
  · refine ⟨hint, w, i, hw, hi, ?_⟩
    by_contra! hno
    obtain ⟨hwi, hwr⟩ := hno
    exact hne (by simp [KeepsTlb.exec _ i hwi hwr u hu])
  · exact absurd (by simp [KeepsTlb.execReserved _ k u hu]) hne

/-- Settles O11: each shared operation keeps the TLB array, so every instruction but TLBWI and TLBWR does, and a
step that changes it fetched one of the two. -/
theorem tlbChangedOnlyByTlbWrites : Obligations.TlbChangedOnlyByTlbWrites := by
  refine ⟨fun i s t h hwi hwr => KeepsTlb.exec s i hwi hwr t h, fun k s t h => KeepsTlb.execReserved s k t h,
    beginStep_tlb, fun o s => endStep_tlb s o, fetch_raised_tlb, ?_⟩
  intro s t h hne
  obtain ⟨hint, w, i, hw, hi, hwrites⟩ := step_tlb_ne s t h hne
  obtain ⟨pa, hpa, rfl⟩ := fetch_done _ _ _ hw
  refine ⟨hint, pa, hpa, ?_⟩
  obtain rfl | rfl := hwrites
  · exact .inl hi
  · exact .inr hi

end Sys2Proof.Machine
end

section
/-! PROOFS. Translation (R120 to R131): the segments as numbers, the match of an entry bit by bit, the page an entry
frames, and the registers of a TLB exception. -/

namespace Sys2Proof.Machine

/-! ## Low masks of a physical address -/

/-- The mask of the low `b` bits. -/
theorem lowMask_getLsbD (b i : Nat) (hi : i < 36) : (BitVec.ofNat 36 (2 ^ b - 1)).getLsbD i = decide (i < b) := by
  rw [BitVec.getLsbD_ofNat, Nat.testBit_two_pow_sub_one, decide_eq_true hi, Bool.true_and]

/-- Clearing the low `b` bits of an address rounds its number down to a multiple of `2 ^ b`. -/
theorem and_not_lowMask_toNat (x : PAddr) (b : Nat) :
    (x &&& ~~~(BitVec.ofNat 36 (2 ^ b - 1))).toNat = x.toNat / 2 ^ b * 2 ^ b := by
  have hshift : x &&& ~~~(BitVec.ofNat 36 (2 ^ b - 1)) = x >>> b <<< b := by
    apply BitVec.eq_of_getLsbD_eq
    intro i hi
    rw [BitVec.getLsbD_and, BitVec.getLsbD_not, lowMask_getLsbD b i hi, BitVec.getLsbD_shiftLeft,
      BitVec.getLsbD_ushiftRight]
    by_cases hib : i < b
    · simp [hib]
    · simp [hi, hib, show b + (i - b) = i by omega]
  have hle : x.toNat / 2 ^ b * 2 ^ b < 2 ^ 36 := Nat.lt_of_le_of_lt (Nat.div_mul_le_self ..) x.isLt
  rw [hshift, BitVec.toNat_shiftLeft, BitVec.toNat_ushiftRight, Nat.shiftRight_eq_div_pow, Nat.shiftLeft_eq,
    Nat.mod_eq_of_lt hle]

theorem lowMask_toNat (b : Nat) (hb : b ≤ 36) : (BitVec.ofNat 36 (2 ^ b - 1)).toNat = 2 ^ b - 1 := by
  have := Nat.pow_le_pow_right (show 0 < 2 by decide) hb
  rw [BitVec.toNat_ofNat, Nat.mod_eq_of_lt (by omega)]

/-- Keeping the low `b` bits of an address is its remainder. -/
theorem and_lowMask_toNat (y : PAddr) (b : Nat) (hb : b ≤ 36) :
    (y &&& BitVec.ofNat 36 (2 ^ b - 1)).toNat = y.toNat % 2 ^ b := by
  rw [BitVec.toNat_and, lowMask_toNat b hb, Nat.and_two_pow_sub_one_eq_mod]

/-- An address put together from the bits of `x` from `b` up and the low `b` bits of `y`. -/
theorem splice_toNat (x y : PAddr) (b : Nat) (hb : b ≤ 36) :
    ((x &&& ~~~(BitVec.ofNat 36 (2 ^ b - 1))) ||| (y &&& BitVec.ofNat 36 (2 ^ b - 1))).toNat =
      x.toNat / 2 ^ b * 2 ^ b + y.toNat % 2 ^ b := by
  rw [BitVec.toNat_or, and_not_lowMask_toNat, and_lowMask_toNat y b hb, Nat.mul_comm,
    Nat.two_pow_add_eq_or_of_lt (Nat.mod_lt _ (Nat.two_pow_pos b))]

/-! ## Segments (R121 to R124) -/

theorem inRange_eq (va lo hi : DWord) : inRange va lo hi = decide (lo.toNat ≤ va.toNat ∧ va.toNat ≤ hi.toNat) := by
  simp [inRange, BitVec.le_def]

theorem unmapped29_eq (va : DWord) (p : Policy) :
    unmapped29 va p = .unmapped (BitVec.ofNat 36 (va.toNat % 2 ^ 29)) p := by
  simp [unmapped29, BitVec.extractLsb', BitVec.toNat_inj.symm]

theorem unmapped31_eq (va : DWord) :
    unmapped31 va = .unmapped (BitVec.ofNat 36 (va.toNat % 2 ^ 31)) .uncached := by
  simp [unmapped31, BitVec.extractLsb', BitVec.toNat_inj.symm]

/-- xkphys: an error above the physical space, else the policy of bits 61:59 (R122). -/
theorem classifyXkphys_eq (va : DWord) :
    classifyXkphys va =
      if va.toNat / 2 ^ 36 % 2 ^ 23 ≠ 0 then .error
      else .unmapped (BitVec.ofNat 36 (va.toNat % 2 ^ 36))
        (if va.toNat / 2 ^ 59 % 8 = 2 then .uncached else .cached) := by
  have herr : va.extractLsb' 36 23 = 0#23 ↔ va.toNat / 2 ^ 36 % 2 ^ 23 = 0 := by
    rw [← BitVec.toNat_inj, BitVec.extractLsb'_toNat, Nat.shiftRight_eq_div_pow]; rfl
  have hpol : va.extractLsb' 59 3 = 2#3 ↔ va.toNat / 2 ^ 59 % 8 = 2 := by
    rw [← BitVec.toNat_inj, BitVec.extractLsb'_toNat, Nat.shiftRight_eq_div_pow]; rfl
  have hpa : va.setWidth 36 = BitVec.ofNat 36 (va.toNat % 2 ^ 36) := by
    simp [BitVec.toNat_inj.symm]
  simp only [classifyXkphys, ne_eq, herr, hpol, hpa]

/-- The compatibility segments both kernel maps share (R121, R122). -/
theorem classifyCompat_eq (va : DWord) :
    classifyCompat va =
      if 0xFFFFFFFF80000000 ≤ va.toNat ∧ va.toNat ≤ 0xFFFFFFFF9FFFFFFF then
        .unmapped (BitVec.ofNat 36 (va.toNat % 2 ^ 29)) .cached
      else if 0xFFFFFFFFA0000000 ≤ va.toNat ∧ va.toNat ≤ 0xFFFFFFFFBFFFFFFF then
        .unmapped (BitVec.ofNat 36 (va.toNat % 2 ^ 29)) .uncached
      else if 0xFFFFFFFFC0000000 ≤ va.toNat then .mapped else .error := by
  have hlt := va.isLt
  simp only [classifyCompat, inRange_eq, unmapped29_eq, BitVec.toNat_ofNat, Nat.reduceMod, Nat.reducePow,
    decide_eq_true_eq, ← ite_or]
  congr 3
  exact propext (by omega)

theorem classifyUser_eq (ux : Bool) (va : DWord) :
    classifyUser ux va =
      if va.toNat ≤ (if ux then 0xFFFFFFFFFF else 0x7FFFFFFF) then .mapped else .error := by
  cases ux <;> simp [classifyUser, inRange_eq]

theorem classifySupervisor_narrow (va : DWord) :
    classifySupervisor false va =
      if va.toNat ≤ 0x7FFFFFFF ∨ (0xFFFFFFFFC0000000 ≤ va.toNat ∧ va.toNat ≤ 0xFFFFFFFFDFFFFFFF) then .mapped
      else .error := by
  simp [classifySupervisor, inRange_eq, ite_or]

theorem classifySupervisor_wide (va : DWord) :
    classifySupervisor true va =
      if va.toNat ≤ 0xFFFFFFFFFF ∨ (0x4000000000000000 ≤ va.toNat ∧ va.toNat ≤ 0x400000FFFFFFFFFF) ∨
        (0xFFFFFFFFC0000000 ≤ va.toNat ∧ va.toNat ≤ 0xFFFFFFFFDFFFFFFF) then .mapped
      else .error := by
  simp [classifySupervisor, inRange_eq, ite_or]

theorem classifyKernel32_eq (erl : Bool) (va : DWord) :
    classifyKernel32 erl va =
      if va.toNat ≤ 0x7FFFFFFF then
        (if erl then .unmapped (BitVec.ofNat 36 (va.toNat % 2 ^ 31)) .uncached else .mapped)
      else classifyCompat va := by
  simp [classifyKernel32, inRange_eq, unmapped31_eq]

theorem classifyKernel64_eq (erl : Bool) (va : DWord) :
    classifyKernel64 erl va =
      if va.toNat ≤ 0xFFFFFFFFFF then
        (if erl = true ∧ va.toNat < 0x80000000 then .unmapped (BitVec.ofNat 36 (va.toNat % 2 ^ 31)) .uncached
        else .mapped)
      else if 0x4000000000000000 ≤ va.toNat ∧ va.toNat ≤ 0x400000FFFFFFFFFF then .mapped
      else if 0x8000000000000000 ≤ va.toNat ∧ va.toNat ≤ 0xBFFFFFFFFFFFFFFF then classifyXkphys va
      else if 0xC000000000000000 ≤ va.toNat ∧ va.toNat ≤ 0xC00000FF7FFFFFFF then .mapped
      else classifyCompat va := by
  simp [classifyKernel64, inRange_eq, unmapped31_eq, BitVec.lt_def]

/-! ## Which map applies -/

theorem classify_user (s : State) (va : DWord) (h : s.userMode = true) : classify s va = classifyUser s.ux va := by
  simp only [State.userMode, Bool.and_eq_true, Bool.not_eq_true'] at h
  simp [classify, h]

theorem classify_supervisor (s : State) (va : DWord) (h : s.supervisorMode = true) :
    classify s va = classifySupervisor s.sx va := by
  have hk : s.kernelMode = false := by
    simp only [State.supervisorMode, Bool.and_eq_true, Bool.not_eq_true'] at h
    exact h.1
  simp [classify, h, hk]

theorem classify_kernel (s : State) (va : DWord) (h : s.kernelMode = true) :
    classify s va = if s.kx then classifyKernel64 s.erl va else classifyKernel32 s.erl va := by
  simp [classify, h]

theorem translate_unmapped (s : State) (k : AccessKind) (va : DWord) (pa : PAddr) (p : Policy)
    (h : classify s va = .unmapped pa p) : translate s k va = .ok pa p := by
  simp [translate, h]

theorem translate_error (s : State) (k : AccessKind) (va : DWord) (h : classify s va = .error) :
    translate s k va = .error := by
  simp [translate, h]

/-- Settles O22: each map as numbers, the kernel maps ending in the compatibility segments they share. -/
theorem userSegments : Obligations.UserSegments := by
  intro s k va
  refine ⟨fun hu => ⟨fun hx => ?_, fun hx => ?_⟩, fun hs => ⟨fun hx => ?_, fun hx => ?_⟩,
    fun hk => ⟨fun hx => ?_, fun hx => ?_⟩, translate_unmapped s k va, translate_error s k va⟩
  · rw [classify_user s va hu, classifyUser_eq, hx]; rfl
  · rw [classify_user s va hu, classifyUser_eq, hx]; rfl
  · rw [classify_supervisor s va hs, hx, classifySupervisor_narrow]
  · rw [classify_supervisor s va hs, hx, classifySupervisor_wide]
  · rw [classify_kernel s va hk, hx, classifyKernel32_eq, classifyCompat_eq]; rfl
  · rw [classify_kernel s va hk, hx, classifyKernel64_eq, classifyXkphys_eq, classifyCompat_eq]; rfl

end Sys2Proof.Machine
end

section
/-! PROOFS. The TLB: when an entry matches, the page it frames, and the registers of a TLB exception (R125 to R131). -/

namespace Sys2Proof.Machine

/-! ## The match of an entry (R126) -/

/-- The bits of VPN2 the addressing width compares. -/
theorem vpn2Width_getLsbD (ext : Bool) (i : Nat) (hi : i < 27) :
    (if ext then BitVec.allOnes 27 else 0x7FFFF#27).getLsbD i = decide (i < if ext then 27 else 19) := by
  cases ext with
  | true => exact BitVec.getLsbD_allOnes ..
  | false =>
    have hmask : 0x7FFFF#27 = BitVec.ofNat 27 (2 ^ 19 - 1) := rfl
    simp only [Bool.false_eq_true, if_false]
    rw [hmask, BitVec.getLsbD_ofNat, Nat.testBit_two_pow_sub_one, decide_eq_true hi, Bool.true_and]

/-- The comparison of VPN2 bit by bit, each bit named by its place in the address. -/
theorem vpn2_agrees_iff (ext : Bool) (va : DWord) (e : TlbEntry) :
    (va.extractLsb' 13 27 ^^^ e.vpn2) &&& ~~~(e.mask.setWidth 27) &&&
        (if ext then BitVec.allOnes 27 else 0x7FFFF#27) = 0#27 ↔
      ∀ j, 13 ≤ j → j ≤ (if ext then 39 else 31) → ¬(j ≤ 24 ∧ e.mask.getLsbD (j - 13) = true) →
        va.getLsbD j = e.vpn2.getLsbD (j - 13) := by
  have bit : ∀ i, i < 27 →
      (((va.extractLsb' 13 27 ^^^ e.vpn2) &&& ~~~(e.mask.setWidth 27) &&&
        (if ext then BitVec.allOnes 27 else 0x7FFFF#27)).getLsbD i = false ↔
      (i < (if ext then 27 else 19) → e.mask.getLsbD i = false → va.getLsbD (13 + i) = e.vpn2.getLsbD i)) := by
    intro i hi
    rw [BitVec.getLsbD_and, vpn2Width_getLsbD ext i hi, BitVec.getLsbD_and, BitVec.getLsbD_xor,
      BitVec.getLsbD_extractLsb', BitVec.getLsbD_not, BitVec.getLsbD_setWidth]
    simp only [hi, decide_true, Bool.true_and]
    cases e.mask.getLsbD i <;> cases va.getLsbD (13 + i) <;> cases e.vpn2.getLsbD i <;> simp
  constructor
  · intro h j hlo hhi hmask
    have hi : j - 13 < 27 := by cases ext <;> simp at hhi <;> omega
    have hwidth : j - 13 < (if ext then 27 else 19) := by cases ext <;> simp at hhi ⊢ <;> omega
    have hclear : e.mask.getLsbD (j - 13) = false := by
      by_contra hset
      rw [Bool.not_eq_false] at hset
      have := BitVec.lt_of_getLsbD hset
      exact hmask ⟨by omega, hset⟩
    have hbit := (bit (j - 13) hi).1 (by rw [h, BitVec.getLsbD_zero]) hwidth hclear
    rwa [show 13 + (j - 13) = j by omega] at hbit
  · intro h
    refine BitVec.eq_of_getLsbD_eq fun i hi => ?_
    rw [BitVec.getLsbD_zero, bit i hi]
    intro hwidth hclear
    have hj : 13 + i - 13 = i := by omega
    have hhi : 13 + i ≤ (if ext then 39 else 31) := by cases ext <;> simp at hwidth ⊢ <;> omega
    have hbit := h (13 + i) (by omega) hhi
    rw [hj] at hbit
    exact hbit (by simp [hclear])

theorem mem_matching (s : State) (va : DWord) (i : Fin 48) :
    i ∈ s.matching va ↔ entryMatches s.addr64 s.asid va s.tlb[i.val] = true := by
  simp [State.matching]

/-- Settles O23: the three conditions of the match, the first bit by bit. -/
theorem entryMatchRule : Obligations.EntryMatchRule := by
  intro s va i
  dsimp only
  rw [mem_matching, ← vpn2_agrees_iff]
  simp only [entryMatches, Bool.and_eq_true, Bool.or_eq_true, Bool.not_eq_true', decide_eq_true_eq, and_assoc,
    ← Bool.not_eq_true, ← imp_iff_not_or]
  exact Iff.rfl

/-! ## The entry a translation uses (R127, R128) -/

theorem pickEntry_none (s : State) (k : AccessKind) (va : DWord) (h : s.matching va = []) :
    s.pickEntry k va = none := by
  simp [State.pickEntry, h]

/-- Of the entries that match, a translation uses one. -/
theorem pickEntry_some (s : State) (k : AccessKind) (va : DWord) (h : s.matching va ≠ []) :
    ∃ i ∈ s.matching va, s.pickEntry k va = some s.tlb[i.val] := by
  unfold State.pickEntry
  split
  next hm => exact absurd hm h
  next i hm => exact ⟨i, by simp [hm], rfl⟩
  next i rest _ hm =>
    refine ⟨_, ?_, rfl⟩
    have hlt := Nat.mod_lt (Config.tlbPick s.draws (accessNumber k)) (Nat.succ_pos rest.length)
    rw [hm, List.getD_eq_getElem _ _ (by simpa using hlt)]
    exact List.getElem_mem _

theorem translate_refill (s : State) (k : AccessKind) (va : DWord) (hc : classify s va = .mapped)
    (hl : s.tlbMasksLegal = true) (hm : s.matching va = []) : translate s k va = .miss .refill := by
  simp [translate, hc, hl, pickEntry_none s k va hm]

/-- A mapped address that some entry matches has the outcome of a matching entry. -/
theorem translate_entry (s : State) (k : AccessKind) (va : DWord) (hc : classify s va = .mapped)
    (hl : s.tlbMasksLegal = true) (hm : s.matching va ≠ []) :
    ∃ i ∈ s.matching va, translate s k va = entryOutcome k va s.tlb[i.val] := by
  obtain ⟨i, hi, hp⟩ := pickEntry_some s k va hm
  exact ⟨i, hi, by simp [translate, hc, hl, hp]⟩

/-- A mapped address translates only through a matching entry, all Masks being legal. -/
theorem translate_mapped_ok (s : State) (k : AccessKind) (va : DWord) (pa : PAddr) (p : Policy)
    (hc : classify s va = .mapped) (h : translate s k va = .ok pa p) :
    ∃ i ∈ s.matching va, entryOutcome k va s.tlb[i.val] = .ok pa p := by
  cases hl : s.tlbMasksLegal with
  | false => simp [translate, hc, hl] at h
  | true =>
    by_cases hm : s.matching va = []
    · simp [translate_refill s k va hc hl hm] at h
    · obtain ⟨i, hi, he⟩ := translate_entry s k va hc hl hm
      exact ⟨i, hi, he ▸ h⟩

/-! ## The page an entry frames (R125, R127) -/

/-- The descriptor of an entry that an address selects. -/
def TlbEntry.half (e : TlbEntry) (va : DWord) : TlbLo := if va.getLsbD (evenOddBit e) then e.lo1 else e.lo0

theorem entryOutcome_invalid (k : AccessKind) (va : DWord) (e : TlbEntry) (h : (e.half va).v = false) :
    entryOutcome k va e = .miss .invalid := by
  unfold TlbEntry.half at h
  simp [entryOutcome, h]

theorem entryOutcome_modify (va : DWord) (e : TlbEntry) (hv : (e.half va).v = true) (hd : (e.half va).d = false) :
    entryOutcome .store va e = .miss .modify := by
  unfold TlbEntry.half at hv hd
  simp [entryOutcome, hv, hd]

theorem entryOutcome_ok (k : AccessKind) (va : DWord) (e : TlbEntry) (hv : (e.half va).v = true)
    (hd : k ≠ .store ∨ (e.half va).d = true) :
    entryOutcome k va e =
      .ok ((((e.half va).pfn.setWidth 36 <<< 12) &&& ~~~(offMask e)) ||| (va.setWidth 36 &&& offMask e))
        (if (e.half va).c = 2#3 then .uncached else .cached) := by
  have hd' : (decide (k = .store) && !(e.half va).d) = false := by
    obtain hk | hd := hd
    · simp [hk]
    · simp [hd]
  unfold TlbEntry.half at hv hd' ⊢
  simp [entryOutcome, hv, hd']

/-- The bits of `OffMask`: the twelve of the smallest page, and Mask above them (R125). -/
theorem offMask_getLsbD (e : TlbEntry) (j : Nat) (h : j < 12 ∨ (j < 24 ∧ e.mask.getLsbD (j - 12) = true)) :
    (offMask e).getLsbD j = true := by
  by_cases hj : j < 12
  · exact offMask_low e j hj
  · obtain hlow | ⟨hlt, hset⟩ := h
    · exact absurd hlow hj
    · simp [offMask, hset, hj, show j < 36 by omega]

/-- The physical address keeps the bits of the address under `OffMask` (R129). -/
theorem entryOutcome_offset (k : AccessKind) (va : DWord) (e : TlbEntry) (pa : PAddr) (p : Policy)
    (h : entryOutcome k va e = .ok pa p) (j : Nat) (hj : (offMask e).getLsbD j = true) :
    pa.getLsbD j = va.getLsbD j := by
  have hlt := BitVec.lt_of_getLsbD hj
  cases hv : (e.half va).v with
  | false => simp [entryOutcome_invalid k va e hv] at h
  | true =>
    by_cases hd : k ≠ .store ∨ (e.half va).d = true
    · rw [entryOutcome_ok k va e hv hd] at h
      simp only [Translation.ok.injEq] at h
      rw [← h.1]
      simp only [BitVec.getLsbD_or, BitVec.getLsbD_and, BitVec.getLsbD_not, BitVec.getLsbD_setWidth, hj, hlt,
        decide_true, Bool.true_and, Bool.not_true, Bool.and_false, Bool.and_true, Bool.false_or]
    · simp only [ne_eq, not_or, not_not, Bool.not_eq_true] at hd
      obtain ⟨rfl, hd⟩ := hd
      simp [entryOutcome_modify va e hv hd] at h

/-- Settles O21: bits 11:0 in every segment, the bits under `OffMask` of the matching entry in a mapped one. -/
theorem translationKeepsPageOffset : Obligations.TranslationKeepsPageOffset := by
  intro s k va pa p h
  refine ⟨translate_low12 s k va pa p h, fun hc => ?_⟩
  obtain ⟨i, hi, he⟩ := translate_mapped_ok s k va pa p hc h
  exact ⟨i, (mem_matching s va i).1 hi, fun j hj => entryOutcome_offset k va _ pa p he j (offMask_getLsbD _ j hj)⟩

/-- A legal Mask is that of a page of `2 ^ (12 + 2 * n)` bytes (R45). -/
theorem legalMask_size (m : BitVec 12) (h : legalMask m = true) : ∃ n, n ≤ 6 ∧ m = BitVec.ofNat 12 (4 ^ n - 1) := by
  simp only [legalMask, decide_eq_true_eq, List.mem_cons, List.not_mem_nil, or_false] at h
  obtain rfl | rfl | rfl | rfl | rfl | rfl | rfl := h
  exacts [⟨0, by decide⟩, ⟨1, by decide⟩, ⟨2, by decide⟩, ⟨3, by decide⟩, ⟨4, by decide⟩, ⟨5, by decide⟩,
    ⟨6, by decide⟩]

section page
variable (e : TlbEntry) (n : Nat) (hn : n ≤ 6) (hm : e.mask = BitVec.ofNat 12 (4 ^ n - 1))
include hn hm

theorem offMask_of_size : offMask e = BitVec.ofNat 36 (2 ^ (12 + 2 * n) - 1) := by
  rw [offMask, hm]
  interval_cases n <;> rfl

theorem evenOddBit_of_size : evenOddBit e = 12 + 2 * n := by
  have hpos : 2 ^ (11 + 2 * n) * 2 = 2 ^ (12 + 2 * n) := by ring
  have hlog : Nat.log2 (2 ^ (12 + 2 * n) - 1) = 11 + 2 * n := by
    have := Nat.two_pow_pos (11 + 2 * n)
    rw [Nat.log2_eq_iff (by omega), pow_succ]
    omega
  rw [evenOddBit, offMask_of_size e n hn hm, lowMask_toNat _ (by omega), hlog]
  omega

/-- The descriptor is chosen by the address bit just above the page offset (R127). -/
theorem half_of_size (va : DWord) :
    e.half va = if va.toNat / 2 ^ (12 + 2 * n) % 2 = 1 then e.lo1 else e.lo0 := by
  rw [TlbEntry.half, evenOddBit_of_size e n hn hm, BitVec.getLsbD, Nat.testBit_eq_decide_div_mod_eq]
  simp only [decide_eq_true_eq]

/-- The physical address: the frame above the page offset, the address below it (R127). -/
theorem frame_of_size (lo : TlbLo) (va : DWord) :
    (((lo.pfn.setWidth 36 <<< 12) &&& ~~~(offMask e)) ||| (va.setWidth 36 &&& offMask e)).toNat =
      lo.pfn.toNat * 2 ^ 12 / 2 ^ (12 + 2 * n) * 2 ^ (12 + 2 * n) + va.toNat % 2 ^ (12 + 2 * n) := by
  have hpfn : (lo.pfn.setWidth 36 <<< 12 : PAddr).toNat = lo.pfn.toNat * 2 ^ 12 := by
    have := lo.pfn.isLt
    rw [BitVec.toNat_shiftLeft, BitVec.toNat_setWidth_of_le (by decide), Nat.shiftLeft_eq, Nat.mod_eq_of_lt (by omega)]
  have hva : (va.setWidth 36).toNat % 2 ^ (12 + 2 * n) = va.toNat % 2 ^ (12 + 2 * n) := by
    rw [BitVec.toNat_setWidth, Nat.mod_mod_of_dvd _ (pow_dvd_pow 2 (show 12 + 2 * n ≤ 36 by omega))]
  rw [offMask_of_size e n hn hm, splice_toNat _ _ _ (by omega), hpfn, hva]

end page

theorem legalMask_of_all (s : State) (h : s.tlbMasksLegal = true) (i : Fin 48) :
    legalMask s.tlb[i.val].mask = true :=
  List.all_eq_true.1 h _ (by simp)

/-- Settles O24: a refill when nothing matches, else the outcome of the entry used, its page size read off its Mask. -/
theorem mappedTranslation : Obligations.MappedTranslation := by
  intro s k va hc hl
  refine ⟨translate_refill s k va hc hl, fun hne => ?_⟩
  obtain ⟨i, hi, ht⟩ := translate_entry s k va hc hl hne
  obtain ⟨n, hn, hm⟩ := legalMask_size _ (legalMask_of_all s hl i)
  refine ⟨i, hi, n, hn, hm, ?_⟩
  dsimp only
  rw [ht, ← half_of_size _ n hn hm va]
  refine ⟨entryOutcome_invalid k va _, ?_, fun hv hd => ⟨_, entryOutcome_ok k va _ hv hd, ?_⟩⟩
  · rintro hv rfl hd
    exact entryOutcome_modify va _ hv hd
  · exact frame_of_size _ n hn hm _ va

/-! ## The registers of a TLB exception (R131) -/

/-- An exception writes Cause, EPC and Status of coprocessor 0 and no other register of it (R621). -/
theorem takeException_cp0 (s : State) (c : ExcCode) (ce : BitVec 2) (o : DWord) :
    (takeException c ce o s).cp0 =
      { s.cp0 with
        cause := (takeException c ce o s).cp0.cause
        epc := (takeException c ce o s).cp0.epc
        status := (takeException c ce o s).cp0.status } := by
  cases h : s.exl with
  | false => rw [takeException_first s c ce o h]
  | true => rw [takeException_nested s c ce o h]

/-- The registers a TLB exception wrote before it was raised stay as written. -/
theorem raiseTlb_cp0 (s : State) (m : TlbMiss) (k : AccessKind) (va : DWord) :
    (s.raiseTlb m k va).cp0 =
      { (s.tlbRegisters va).cp0 with
        cause := (s.raiseTlb m k va).cp0.cause
        epc := (s.raiseTlb m k va).cp0.epc
        status := (s.raiseTlb m k va).cp0.status } := takeException_cp0 ..

/-- A mask with the bits from `lo` up to `lo + len`. -/
theorem fieldMask_getLsbD (lo len j : Nat) (hj : j < 64) :
    (BitVec.ofNat 64 ((2 ^ len - 1) <<< lo)).getLsbD j = (decide (lo ≤ j) && decide (j < lo + len)) := by
  rw [BitVec.getLsbD_ofNat, Nat.testBit_shiftLeft, Nat.testBit_two_pow_sub_one, decide_eq_true hj, Bool.true_and]
  by_cases hlo : lo ≤ j
  · simp [hlo, Nat.sub_lt_iff_lt_add' hlo]
  · simp [hlo]

/-- A field of `len` bits moved to `lo`, bit by bit. -/
theorem movedField_getLsbD {len : Nat} (f : BitVec len) (lo j : Nat) (hj : j < 64) :
    (f.setWidth 64 <<< lo).getLsbD j = (decide (lo ≤ j) && f.getLsbD (j - lo)) := by
  rw [BitVec.getLsbD_shiftLeft, BitVec.getLsbD_setWidth, decide_eq_true hj, decide_eq_true (show j - lo < 64 by omega)]
  by_cases hlo : lo ≤ j
  · simp [hlo]
  · simp [hlo, show j < lo by omega]

section registers
variable (s : State) (va : DWord) (j : Nat) (hj : j < 64)
include hj

/-- EntryHi of a TLB exception: R and VPN2 of the address, the ASID as it was. -/
theorem tlbRegisters_entryHi :
    (s.tlbRegisters va).cp0.entryHi.getLsbD j =
      if j < 8 then s.cp0.entryHi.getLsbD j
      else if (13 ≤ j ∧ j ≤ 39) ∨ 62 ≤ j then va.getLsbD j else false := by
  have hmask : 0xC00000FFFFFFE000#64 =
      BitVec.ofNat 64 ((2 ^ 27 - 1) <<< 13) ||| BitVec.ofNat 64 ((2 ^ 2 - 1) <<< 62) := rfl
  simp only [State.tlbRegisters, State.asid, hmask]
  rw [BitVec.getLsbD_or, BitVec.getLsbD_and, BitVec.getLsbD_or, fieldMask_getLsbD _ _ _ hj, fieldMask_getLsbD _ _ _ hj,
    BitVec.getLsbD_setWidth, BitVec.getLsbD_extractLsb', Nat.zero_add]
  grind

/-- Context of a TLB exception: bits 31:13 of the address in bits 22:4, the rest as it was. -/
theorem tlbRegisters_context :
    (s.tlbRegisters va).cp0.context.getLsbD j =
      if 4 ≤ j ∧ j ≤ 22 then va.getLsbD (j + 9) else s.cp0.context.getLsbD j := by
  have hmask : 0x7FFFF0#64 = BitVec.ofNat 64 ((2 ^ 19 - 1) <<< 4) := rfl
  simp only [State.tlbRegisters, hmask]
  rw [BitVec.getLsbD_or, BitVec.getLsbD_and, BitVec.getLsbD_not, fieldMask_getLsbD _ _ _ hj, movedField_getLsbD _ _ _ hj,
    BitVec.getLsbD_extractLsb']
  grind

/-- XContext of a TLB exception: bits 63:62 of the address in bits 32:31, bits 39:13 in bits 30:4, the rest as it
was. -/
theorem tlbRegisters_xContext :
    (s.tlbRegisters va).cp0.xContext.getLsbD j =
      if 31 ≤ j ∧ j ≤ 32 then va.getLsbD (j + 31)
      else if 4 ≤ j ∧ j ≤ 30 then va.getLsbD (j + 9) else s.cp0.xContext.getLsbD j := by
  have hmask : 0x1FFFFFFF0#64 = BitVec.ofNat 64 ((2 ^ 29 - 1) <<< 4) := rfl
  simp only [State.tlbRegisters, hmask]
  rw [BitVec.getLsbD_or, BitVec.getLsbD_or, BitVec.getLsbD_and, BitVec.getLsbD_not, fieldMask_getLsbD _ _ _ hj,
    movedField_getLsbD _ _ _ hj, movedField_getLsbD _ _ _ hj, BitVec.getLsbD_extractLsb', BitVec.getLsbD_extractLsb']
  grind

end registers

/-- Settles O17: the exception keeps the registers `tlbRegisters` wrote, and these are read bit by bit. -/
theorem tlbExceptionRegisters : Obligations.TlbExceptionRegisters := by
  intro s m k va
  dsimp only
  rw [raiseTlb_cp0 s m k va]
  exact ⟨rfl, tlbRegisters_entryHi s va, tlbRegisters_context s va, tlbRegisters_xContext s va⟩

end Sys2Proof.Machine
end

section
/-! PROOFS. Loads and stores: their addresses, the meaning of each instruction as one template at the address the
statements name, and how each template ends when a check of its access fails (R110 to R116, R360 to R363). -/

namespace Sys2Proof.Machine

/-! ## Numbers as patterns -/

theorem dwordOf_toNat (v : DWord) : dwordOf v.toNat = v := by
  rw [dwordOf, BitVec.ofInt_natCast, BitVec.ofNat_toNat, BitVec.setWidth_eq]

theorem dwordOf_add (a b : Int) : dwordOf (a + b) = dwordOf a + dwordOf b := BitVec.ofInt_add ..

/-- The low bits of a number, sign-extended (R17, R361). -/
theorem sextFrom_eq (w : Nat) (v : DWord) : sextFrom w v = dwordOf (Int.bmod v.toNat (2 ^ w)) := by
  rw [sextFrom, BitVec.signExtend, BitVec.toInt_setWidth]; rfl

theorem sextFrom_dwordOf (w : Nat) (hw : w ≤ 64) (i : Int) : sextFrom w (dwordOf i) = dwordOf (Int.bmod i (2 ^ w)) := by
  have hmod : Int.bmod (dwordOf i).toNat (2 ^ w) = Int.bmod i (2 ^ w) := calc
    Int.bmod (dwordOf i).toNat (2 ^ w) = Int.bmod (dwordOf i).toInt (2 ^ w) := by
      rw [BitVec.toInt_eq_toNat_bmod, Int.bmod_bmod_of_dvd (pow_dvd_pow 2 hw)]
    _ = Int.bmod (Int.bmod i (2 ^ 64)) (2 ^ w) := congrArg (Int.bmod · (2 ^ w)) (BitVec.toInt_ofInt i)
    _ = Int.bmod i (2 ^ w) := Int.bmod_bmod_of_dvd (pow_dvd_pow 2 hw)
  rw [sextFrom_eq, hmod]

/-! ## Effective addresses (R18, R360) -/

/-- Wrapping the pattern of a number is the address computed as a number. -/
theorem addrWrap_dwordOf (s : State) (i : Int) : s.addrWrap (dwordOf i) = wrapAddress s i := by
  unfold State.addrWrap wrapAddress
  split
  · rfl
  · exact sextFrom_dwordOf 32 (by decide) i

/-- The address of a load or store is the one the statements name. -/
theorem ea_eq (s : State) (base : Reg) (off : BitVec 16) : s.ea base off = addressOf s base off := by
  have hbase : dwordOf (s.getX base).toInt = s.getX base := BitVec.ofInt_toInt
  rw [addressOf, ← addrWrap_dwordOf, dwordOf_add, hbase]
  rfl

/-! ## The meaning of each instruction, at the address the statements name -/

section meaning
variable (s : State) (rt base : Reg) (ft : FReg) (off : BitVec 16)

theorem exec_lb : exec (.lb rt base off) s = loadReg s rt (addressOf s base off) 1 (sextFrom 8) := by
  rw [← ea_eq]; rfl

theorem exec_lbu : exec (.lbu rt base off) s = loadReg s rt (addressOf s base off) 1 id := by
  rw [← ea_eq]; rfl

theorem exec_lh : exec (.lh rt base off) s = loadReg s rt (addressOf s base off) 2 (sextFrom 16) := by
  rw [← ea_eq]; rfl

theorem exec_lhu : exec (.lhu rt base off) s = loadReg s rt (addressOf s base off) 2 id := by
  rw [← ea_eq]; rfl

theorem exec_lw : exec (.lw rt base off) s = loadReg s rt (addressOf s base off) 4 (sextFrom 32) := by
  rw [← ea_eq]; rfl

theorem exec_sb : exec (.sb rt base off) s = storeReg s rt (addressOf s base off) 1 := by
  rw [← ea_eq]; rfl

theorem exec_sh : exec (.sh rt base off) s = storeReg s rt (addressOf s base off) 2 := by
  rw [← ea_eq]; rfl

theorem exec_sw : exec (.sw rt base off) s = storeReg s rt (addressOf s base off) 4 := by
  rw [← ea_eq]; rfl

theorem exec_ll : exec (.ll rt base off) s = loadLinked s rt (addressOf s base off) 4 (sextFrom 32) := by
  rw [← ea_eq]; rfl

theorem exec_sc : exec (.sc rt base off) s = storeConditional s rt (addressOf s base off) 4 := by
  rw [← ea_eq]; rfl

theorem exec_lwl : exec (.lwl rt base off) s = loadLeft s rt (addressOf s base off) 4 sext32to64 := by
  rw [← ea_eq]; rfl

theorem exec_lwr : exec (.lwr rt base off) s = loadRight s rt (addressOf s base off) 4 sext32to64 := by
  rw [← ea_eq]; rfl

theorem exec_swl : exec (.swl rt base off) s = storeLeft s rt (addressOf s base off) 4 := by
  rw [← ea_eq]; rfl

theorem exec_swr : exec (.swr rt base off) s = storeRight s rt (addressOf s base off) 4 := by
  rw [← ea_eq]; rfl

section wide
variable (h : s.ops64 = true)
include h

theorem exec_lwu : exec (.lwu rt base off) s = loadReg s rt (addressOf s base off) 4 id := by
  rw [← ea_eq]; exact guardOps64_ok s _ h

theorem exec_ld : exec (.ld rt base off) s = loadReg s rt (addressOf s base off) 8 id := by
  rw [← ea_eq]; exact guardOps64_ok s _ h

theorem exec_sd : exec (.sd rt base off) s = storeReg s rt (addressOf s base off) 8 := by
  rw [← ea_eq]; exact guardOps64_ok s _ h

theorem exec_lld : exec (.lld rt base off) s = loadLinked s rt (addressOf s base off) 8 id := by
  rw [← ea_eq]; exact guardOps64_ok s _ h

theorem exec_scd : exec (.scd rt base off) s = storeConditional s rt (addressOf s base off) 8 := by
  rw [← ea_eq]; exact guardOps64_ok s _ h

theorem exec_ldl : exec (.ldl rt base off) s = loadLeft s rt (addressOf s base off) 8 id := by
  rw [← ea_eq]; exact guardOps64_ok s _ h

theorem exec_ldr : exec (.ldr rt base off) s = loadRight s rt (addressOf s base off) 8 id := by
  rw [← ea_eq]; exact guardOps64_ok s _ h

theorem exec_sdl : exec (.sdl rt base off) s = storeLeft s rt (addressOf s base off) 8 := by
  rw [← ea_eq]; exact guardOps64_ok s _ h

theorem exec_sdr : exec (.sdr rt base off) s = storeRight s rt (addressOf s base off) 8 := by
  rw [← ea_eq]; exact guardOps64_ok s _ h

end wide

section coprocessor1
variable (h : s.cu1 = true)
include h

theorem exec_lwc1 : exec (.lwc1 ft base off) s =
    (load s (addressOf s base off) 4).andThen fun r => .next (s.writeF32 ft (low32 r.2)) := by
  rw [← ea_eq]; exact guardCp1_ok s _ h

theorem exec_ldc1 : exec (.ldc1 ft base off) s =
    (load s (addressOf s base off) 8).andThen fun r => commitF64 s ft r.2 := by
  rw [← ea_eq]; exact guardCp1_ok s _ h

theorem exec_swc1 : exec (.swc1 ft base off) s =
    (store s (addressOf s base off) 4 ((s.readF32 ft).setWidth 64)).andThen .next := by
  rw [← ea_eq]; exact guardCp1_ok s _ h

theorem exec_sdc1 : exec (.sdc1 ft base off) s =
    withF64 s ft fun v => (store s (addressOf s base off) 8 v).andThen .next := by
  rw [← ea_eq]; exact guardCp1_ok s _ h

end coprocessor1

end meaning

/-! ## Accesses as a located address -/

theorem load_andThen (s : State) (va : DWord) (n : Nat) (f : PAddr × DWord → Result) :
    (load s va n).andThen f = (checkedLocate s .load va n).andThen fun pa =>
      f (pa, memRead s.params.bigEndian s.mem (s.dataAddress pa n).toNat n) := by
  unfold load
  cases checkedLocate s .load va n <;> rfl

theorem store_andThen (s : State) (va : DWord) (n : Nat) (v : DWord) (f : State → Result) :
    (store s va n v).andThen f = (checkedLocate s .store va n).andThen fun pa =>
      f (s.writeCells (s.storeCellsAt pa n v)) := by
  unfold store
  cases checkedLocate s .store va n <;> rfl

/-- A partial access is located without an alignment check (R363). -/
theorem partAddr_andThen (s : State) (k : AccessKind) (va : DWord) (n : Nat) (f : Nat × Nat → Result) :
    (partAddr s k va n).andThen f = (locate s k va).andThen fun pa =>
      f (partByte s pa - partByte s pa % n, partByte s pa % n) := by
  simp only [← partByte_eq]
  unfold partAddr
  cases locate s k va <;> rfl

/-- Store conditional with the observer installed: the observer is consumed, then the store (R385). -/
theorem storeConditional_linked (s : State) (rt : Reg) (va : DWord) (n : Nat) (h : s.llbit = true) :
    storeConditional s rt va n =
      (store { s with llbit := false } va n (s.getX rt)).andThen fun t => .next (t.setX rt 1#64) := by
  simp [storeConditional, h]

/-! ## Accesses that fail (R110, R111, R113, R115, R116) -/

/-- After the alignment check: the segment, the TLB, the watchpoint, each deciding before the next. -/
theorem locate_faults (s : State) (k : AccessKind) (va : DWord) (f : PAddr → Result) :
    PartFaults s ((locate s k va).andThen f) k va := by
  refine ⟨fun h => ?_, fun m h => ?_, fun pa p h hw => ?_, fun h => ?_⟩
  · simp [locate, h]
  · simp [locate, h]
  · simp [locate, h, (watchHit_iff s k pa).2 hw]
  · simp [locate, h]

/-- A misaligned access is an address error; an aligned one goes on. -/
theorem checkedLocate_faults (s : State) (k : AccessKind) (va : DWord) (n : Nat) (f : PAddr → Result) :
    AccessFaults s ((checkedLocate s k va n).andThen f) k va n := by
  refine ⟨fun h => ?_, fun h => ?_⟩
  · simp [checkedLocate_misaligned s k va n h]
  · have hc : checkedLocate s k va n = locate s k va := by simp [checkedLocate, h]
    rw [hc]
    exact locate_faults s k va f

theorem load_faults (s : State) (va : DWord) (n : Nat) (f : PAddr × DWord → Result) :
    AccessFaults s ((load s va n).andThen f) .load va n := by
  rw [load_andThen]
  exact checkedLocate_faults s .load va n _

theorem store_faults (s : State) (va : DWord) (n : Nat) (v : DWord) (f : State → Result) :
    AccessFaults s ((store s va n v).andThen f) .store va n := by
  rw [store_andThen]
  exact checkedLocate_faults s .store va n _

theorem partAddr_faults (s : State) (k : AccessKind) (va : DWord) (n : Nat) (f : Nat × Nat → Result) :
    PartFaults s ((partAddr s k va n).andThen f) k va := by
  rw [partAddr_andThen]
  exact locate_faults s k va _

theorem f64Legal_iff (s : State) (n : FReg) : s.f64Legal n = true ↔ Legal64 s n := by
  simp [State.f64Legal, Legal64]

/-- A 64-bit floating-point operand is asked for before anything else happens (R481, U21). -/
theorem withF64_needs (s : State) (n : FReg) (k : DWord → Result) (P : Result → Prop) (h : ∀ v, P (k v)) :
    Needs64 s n (withF64 s n k) (P (withF64 s n k)) := by
  refine ⟨fun hl => ?_, fun hl => ?_⟩
  · rw [withF64_legal s n k ((f64Legal_iff s n).2 hl)]
    exact h _
  · rw [← f64Legal_iff, Bool.not_eq_true] at hl
    simp [withF64, State.readF64, hl]

/-- Settles O16: every load and store is a continuation of one located access, so it ends as the access does. -/
theorem dataAccessExceptions : Obligations.DataAccessExceptions := by
  intro s rt base ft off
  refine ⟨?_, fun hw => ?_, fun hc => ?_⟩
  · simp only [exec_lb, exec_lbu, exec_lh, exec_lhu, exec_lw, exec_ll, exec_sb, exec_sh, exec_sw, exec_sc, exec_lwl,
      exec_lwr, exec_swl, exec_swr]
    exact ⟨load_faults .., load_faults .., load_faults .., load_faults .., load_faults .., load_faults ..,
      store_faults .., store_faults .., store_faults .., fun hl => storeConditional_linked s rt _ 4 hl ▸ store_faults ..,
      partAddr_faults .., partAddr_faults .., partAddr_faults .., partAddr_faults ..⟩
  · simp only [exec_lwu s _ _ _ hw, exec_ld s _ _ _ hw, exec_lld s _ _ _ hw, exec_sd s _ _ _ hw, exec_scd s _ _ _ hw,
      exec_ldl s _ _ _ hw, exec_ldr s _ _ _ hw, exec_sdl s _ _ _ hw, exec_sdr s _ _ _ hw]
    exact ⟨load_faults .., load_faults .., load_faults .., store_faults ..,
      fun hl => storeConditional_linked s rt _ 8 hl ▸ store_faults ..,
      partAddr_faults .., partAddr_faults .., partAddr_faults .., partAddr_faults ..⟩
  · simp only [exec_lwc1 s _ _ _ hc, exec_ldc1 s _ _ _ hc, exec_swc1 s _ _ _ hc, exec_sdc1 s _ _ _ hc]
    exact ⟨load_faults .., load_faults .., store_faults ..,
      withF64_needs s ft _ (AccessFaults s · .store _ 8) fun _ => store_faults ..⟩

end Sys2Proof.Machine
end

section
/-! PROOFS. Loads and stores that succeed: the number read, the bytes written, the observer (R104, R105, R108, R141,
R142, R361, R362, R383). -/

namespace Sys2Proof.Machine

/-! ## Registers written -/

theorem setX_otherX (s : State) (r : Reg) (v : DWord) : OtherX s (s.setX r v) r :=
  fun q hq => getX_setX_ne s r q v hq

/-- A register write alone, as the statements give it. -/
theorem setX_writesX (s : State) (r : Reg) (v : DWord) : WritesX s (.next (s.setX r v)) r v := by
  refine ⟨s.setX r v, rfl, ⟨setX_eq s r v, setX_otherX s r v, fun a => by simp⟩, fun h => ?_, getX_setX_same s r v⟩
  rw [h, setX_zero]

/-! ## Loads (R110, R361) -/

/-- The pattern a load reads is the number its bytes spell, from the first byte on (R104, R108). -/
theorem memRead_located (s : State) (va : DWord) (n : Nat) (pa : PAddr) (hn : n = 1 ∨ n = 2 ∨ n = 4 ∨ n = 8)
    (h : AccessOk s .load va n pa) :
    (memRead s.params.bigEndian s.mem (s.dataAddress pa n).toNat n).toNat = numberAt s (firstByte s pa n) n := by
  rw [memRead_toNat s _ n (by omega), dataAddress_toNat s pa n hn (accessOk_aligned s .load va n pa hn h)]

theorem load_done (s : State) (va : DWord) (n : Nat) (pa : PAddr) (hn : n = 1 ∨ n = 2 ∨ n = 4 ∨ n = 8)
    (h : AccessOk s .load va n pa) : load s va n = .done (pa, dwordOf (numberAt s (firstByte s pa n) n)) := by
  rw [load_ok s va n pa h, ← memRead_located s va n pa hn h, dwordOf_toNat]

/-- A load that succeeds writes the extended number to its register, and nothing else. -/
theorem loadReg_writesX (s : State) (rt : Reg) (va : DWord) (n : Nat) (ext : DWord → DWord) (pa : PAddr)
    (hn : n = 1 ∨ n = 2 ∨ n = 4 ∨ n = 8) (h : AccessOk s .load va n pa) :
    WritesX s (loadReg s rt va n ext) rt (ext (dwordOf (numberAt s (firstByte s pa n) n))) := by
  rw [loadReg, load_done s va n pa hn h, andThen_done]
  exact setX_writesX s rt _

/-- Settles O37: each load is one located read, extended. -/
theorem alignedLoads : Obligations.AlignedLoads := by
  intro s rt base off pa
  refine ⟨fun h => ⟨?_, ?_⟩, fun h => ⟨?_, ?_⟩, fun h => ⟨?_, fun hw => ?_⟩, fun h hw => ?_⟩
  · rw [exec_lb, ← sextFrom_dwordOf 8 (by decide)]
    exact loadReg_writesX s rt _ 1 _ pa (by decide) h
  · rw [exec_lbu]
    exact loadReg_writesX s rt _ 1 id pa (by decide) h
  · rw [exec_lh, ← sextFrom_dwordOf 16 (by decide)]
    exact loadReg_writesX s rt _ 2 _ pa (by decide) h
  · rw [exec_lhu]
    exact loadReg_writesX s rt _ 2 id pa (by decide) h
  · rw [exec_lw, show wordOf _ = _ from (sextFrom_dwordOf 32 (by decide) _).symm]
    exact loadReg_writesX s rt _ 4 _ pa (by decide) h
  · rw [exec_lwu s rt base off hw]
    exact loadReg_writesX s rt _ 4 id pa (by decide) h
  · rw [exec_ld s rt base off hw]
    exact loadReg_writesX s rt _ 8 id pa (by decide) h

/-! ## Stores (R111, R362) -/

/-- Every bit below `8 * n` lies in the lane of some byte. -/
theorem exists_byteLane (be : Bool) (n j : Nat) (hj : j < 8 * n) :
    ∃ i, i < n ∧ byteLane be n i ≤ j ∧ j < byteLane be n i + 8 := by
  cases be with
  | true => exact ⟨n - 1 - j / 8, by omega, by simp only [byteLane, if_true]; omega,
      by simp only [byteLane, if_true]; omega⟩
  | false => exact ⟨j / 8, by omega, by simp only [byteLane, Bool.false_eq_true, if_false]; omega,
      by simp only [byteLane, Bool.false_eq_true, if_false]; omega⟩

/-- A read of what was just stored gives the low bytes of the value back (R104, R105). -/
theorem memRead_writeCells (be : Bool) (m : Memory) (a n : Nat) (v : DWord) (hm : Memory.wf m = true) (hn : n ≤ 8) :
    memRead be (Memory.writeCells m (valueCells be a n v)) a n = (v.setWidth (8 * n)).setWidth 64 := by
  refine BitVec.eq_of_getLsbD_eq fun j hj => ?_
  rw [BitVec.getLsbD_setWidth, BitVec.getLsbD_setWidth, decide_eq_true hj, Bool.true_and]
  by_cases hlow : j < 8 * n
  · obtain ⟨i, hi, hle, hlt⟩ := exists_byteLane be n j hlow
    have hbyte := (memRead_byte be (Memory.writeCells m (valueCells be a n v)) a n i hi hn).trans
      (readByte_store be m a n v hm hn i hi)
    have hbit := congrArg (·.getLsbD (j - byteLane be n i)) hbyte
    simp only [BitVec.getLsbD_setWidth, BitVec.getLsbD_ushiftRight, Nat.add_sub_cancel' hle] at hbit
    simpa [hlow, show j - byteLane be n i < 8 by omega] using hbit
  · rw [memRead_high be _ a n j (by omega), decide_eq_false hlow, Bool.false_and]

theorem writeCells_mem (s : State) (cells : List Host.Cell) :
    (s.writeCells cells).mem = Memory.writeCells s.mem cells := rfl

/-- The observer stays only when no written byte is in its line (R142). -/
theorem writeCells_llbit_iff (s : State) (a n : Nat) (v : DWord) (hn : n ≤ 8) :
    (s.writeCells (valueCells s.params.bigEndian a n v)).llbit = true ↔ s.llbit = true ∧ MissesLine s a n := by
  have hany : (valueCells s.params.bigEndian a n v).any (fun c => s.inLine c.1) =
      (List.range n).any fun i => s.inLine (a + i) := by
    rw [valueCells_eq _ _ _ _ hn, List.any_map]; rfl
  simp [State.writeCells, hany, MissesLine]

/-- The cells of a whole write, stored. -/
theorem writeCells_stored (s : State) (a n : Nat) (v : DWord) (hm : Memory.wf s.mem = true) (hn : n ≤ 8) :
    Stored s (s.writeCells (valueCells s.params.bigEndian a n v)) a n (v.toNat % 2 ^ (8 * n)) := by
  refine ⟨?_, fun b hb => ?_, writeCells_llbit_iff s a n v hn⟩
  · have hbound := Nat.mod_lt v.toNat (Nat.two_pow_pos (8 * n))
    have hpow := Nat.pow_le_pow_right (show 0 < 2 by decide) (show 8 * n ≤ 64 by omega)
    rw [← memRead_toNat _ a n hn, writeCells_params, writeCells_mem, memRead_writeCells _ _ _ _ _ hm hn,
      BitVec.toNat_setWidth, BitVec.toNat_setWidth, Nat.mod_eq_of_lt (by omega)]
  · refine readByte_writeCells_out _ _ _ fun hmem => ?_
    rw [valueCells_addrs _ _ _ _ hn] at hmem
    obtain ⟨i, hi, rfl⟩ := List.mem_map.1 hmem
    have := List.mem_range.1 hi
    omega

/-- A store that succeeds stores the low `n` bytes of its register, and nothing else changes. -/
theorem storeReg_stores (s : State) (rt : Reg) (va : DWord) (n : Nat) (pa : PAddr)
    (hn : n = 1 ∨ n = 2 ∨ n = 4 ∨ n = 8) (hm : Memory.wf s.mem = true) (h : AccessOk s .store va n pa) :
    Stores s (storeReg s rt va n) (firstByte s pa n) n ((s.getX rt).toNat % 2 ^ (8 * n)) := by
  rw [storeReg, store_ok s va n _ pa h, andThen_done, State.storeCellsAt,
    dataAddress_toNat s pa n hn (accessOk_aligned s .store va n pa hn h)]
  exact ⟨_, rfl, rfl, writeCells_stored s _ n _ hm (by omega)⟩

/-- Settles O38: each store is one located write of the low bytes of its register. -/
theorem alignedStores : Obligations.AlignedStores := by
  intro s rt base off pa hm
  refine ⟨fun h => ?_, fun h => ?_, fun h => ?_, fun h hw => ?_⟩
  · rw [exec_sb]
    exact storeReg_stores s rt _ 1 pa (by decide) hm h
  · rw [exec_sh]
    exact storeReg_stores s rt _ 2 pa (by decide) hm h
  · rw [exec_sw]
    exact storeReg_stores s rt _ 4 pa (by decide) hm h
  · rw [exec_sd s rt base off hw]
    have hst := storeReg_stores s rt _ 8 pa (by decide) hm h
    rwa [Nat.mod_eq_of_lt (s.getX rt).isLt] at hst

/-! ## Load linked (R141, R383) -/

/-- The size of the observed line is a power of two (R9, R141). -/
theorem legal_lineBytes (p : Params) (h : p.legal = true) : ∃ b, p.llLineBytes = 2 ^ b := by
  simp only [Params.legal, Bool.and_eq_true, decide_eq_true_eq] at h
  obtain ⟨⟨⟨⟨⟨⟨hmin, -⟩, hpow⟩, -⟩, -⟩, -⟩, -⟩ := h
  exact (Nat.and_sub_one_eq_zero_iff_isPowerOfTwo (by omega)).1 hpow

theorem installObserver_llLine (s : State) (pa : PAddr) (h : s.params.legal = true) :
    (s.installObserver pa).llLine.toNat = pa.toNat - pa.toNat % s.params.llLineBytes := by
  obtain ⟨b, hb⟩ := legal_lineBytes s.params h
  have hline : (s.installObserver pa).llLine = pa &&& ~~~(BitVec.ofNat 36 (s.params.llLineBytes - 1)) := rfl
  have := Nat.div_add_mod pa.toNat (2 ^ b)
  rw [hline, hb, and_not_lowMask_toNat, Nat.mul_comm]
  omega

/-- The observer and a register write do not see each other. -/
theorem installObserver_setX (s : State) (r : Reg) (v : DWord) (pa : PAddr) :
    (s.setX r v).installObserver pa = (s.installObserver pa).setX r v := by
  unfold State.setX
  split <;> rfl

theorem llAddr_eq (pa : PAddr) : pa.extractLsb' 4 32 = BitVec.ofNat 32 (pa.toNat / 2 ^ 4) := by
  rw [BitVec.extractLsb', Nat.shiftRight_eq_div_pow]

/-- What a load-linked that succeeds leaves: `v` in the register, the observer on the line of `pa`, bits 35:4 of `pa`
in LLAddr. -/
def Linked (s : State) (rt : Reg) (pa : PAddr) (r : Result) (v : DWord) : Prop :=
  ∃ t, r = .next t ∧
    t = { s with x := t.x, llbit := true, llLine := t.llLine,
                 cp0 := { s.cp0 with llAddr := BitVec.ofNat 32 (pa.toNat / 2 ^ 4) } } ∧
    OtherX s t rt ∧ SameMemory s t ∧ (rt ≠ 0 → t.getX rt = v) ∧
    t.llLine.toNat = pa.toNat - pa.toNat % s.params.llLineBytes

theorem loadLinked_linked (s : State) (rt : Reg) (va : DWord) (n : Nat) (ext : DWord → DWord) (pa : PAddr)
    (hn : n = 1 ∨ n = 2 ∨ n = 4 ∨ n = 8) (hp : s.params.legal = true) (h : AccessOk s .load va n pa) :
    Linked s rt pa (loadLinked s rt va n ext) (ext (dwordOf (numberAt s (firstByte s pa n) n))) := by
  rw [loadLinked, load_done s va n pa hn h, andThen_done]
  dsimp only
  generalize ext _ = v
  rw [installObserver_setX]
  refine ⟨(s.installObserver pa).setX rt v, rfl, ?_, setX_otherX _ rt v, fun a => ?_, getX_setX_same _ rt v, ?_⟩
  · rw [← llAddr_eq, setX_llLine]
    exact setX_eq _ rt v
  · rw [setX_mem, installObserver_mem]
  · rw [setX_llLine]
    exact installObserver_llLine s pa hp

end Sys2Proof.Machine

namespace Sys2Proof
open Machine

/-- Settles O41: the load as LW and LD make it, then the observer on the translated address. -/
theorem loadLinked : Obligations.LoadLinked := by
  intro s rt base off pa hp
  refine ⟨fun h => ?_, fun h hw => ?_⟩
  · rw [exec_ll, show wordOf _ = _ from (sextFrom_dwordOf 32 (by decide) _).symm]
    exact loadLinked_linked s rt _ 4 _ pa (by decide) hp h
  · rw [exec_lld s rt base off hw]
    exact loadLinked_linked s rt _ 8 id pa (by decide) hp h

end Sys2Proof
end

section
/-! PROOFS. What every next state of an instruction meets, template by template for any predicate, and from it the bytes
an instruction writes against the load-linked observer (R142, R385). -/

namespace Sys2Proof.Machine

/-! ## Predicates on the next state -/

/-- Every next state a result gives meets `P`. -/
def Ends (P : State → Prop) (r : Result) : Prop := ∀ t, r = .next t → P t

/-- The states an instruction running in `s` raises before it has changed anything. -/
inductive Raised (s : State) : State → Prop where
  | exception (c : ExcCode) : Raised s (s.raise c)
  | unusable (n : BitVec 2) : Raised s (s.raiseCpU n)
  | addressError (k : AccessKind) (va : DWord) : Raised s (s.raiseAddressError k va)
  | tlb (m : TlbMiss) (k : AccessKind) (va : DWord) : Raised s (s.raiseTlb m k va)

theorem Raised.of_access {s t : State} {k : AccessKind} {va : DWord}
    (h : t = s.raise .watch ∨ t = s.raiseAddressError k va ∨ ∃ m, t = s.raiseTlb m k va) : Raised s t := by
  obtain rfl | rfl | ⟨m, rfl⟩ := h
  · exact .exception _
  · exact .addressError _ _
  · exact .tlb _ _ _

theorem Raised.mem {s t : State} (h : Raised s t) : t.mem = s.mem := by
  cases h <;> simp

section templates
variable {P : State → Prop} {s : State} {r : Result}

theorem Ends.next {t : State} (h : P t) : Ends P (.next t) := by
  rintro u hu
  obtain rfl := Host.Outcome.next.inj hu
  exact h

theorem Ends.refused (q : Refusal) : Ends P (.refused q) := by
  intro t ht
  simp at ht

theorem Ends.ite {a b : State} {c : Prop} [Decidable c] (ha : P a) (hb : P b) :
    Ends P (.next (if c then a else b)) := by
  refine .next ?_
  split
  · exact ha
  · exact hb

theorem Ends.withF64 {n : FReg} {k : DWord → Result} (hk : ∀ v, Ends P (k v)) : Ends P (withF64 s n k) :=
  fun t ht => hk _ t (withF64_next _ _ _ _ ht)

theorem Ends.commitF64 {n : FReg} {v : DWord} (h : ∀ f, P { s with f := f }) : Ends P (commitF64 s n v) := by
  intro t ht
  rw [commitF64_next _ _ _ _ ht]
  exact h _

/-- A floating-point operation ends with its exception or its result, FCR31 written in either case. -/
theorem Ends.fpFinish {fl : FpFlags} {commit : State → Result}
    (hx : ∀ w, P (State.raise { s with fcr31 := w } .fpe)) (hc : ∀ w, Ends P (commit { s with fcr31 := w })) :
    Ends P (fpFinish s fl commit) := by
  intro t ht
  obtain ⟨-, rfl⟩ | ⟨-, hu⟩ := fpFinish_next s t fl commit ht
  · exact hx _
  · exact hc _ t hu

variable (hx : ∀ t, Raised s t → P t)
include hx

theorem Ends.guardOps64 (hr : Ends P r) : Ends P (guardOps64 s r) := by
  intro t ht
  obtain h | rfl := guardOps64_next s t r ht
  · exact hr t h
  · exact hx _ (.exception _)

theorem Ends.guardCp0 (hr : Ends P r) : Ends P (guardCp0 s r) := by
  intro t ht
  obtain h | rfl := guardCp0_next s t r ht
  · exact hr t h
  · exact hx _ (.unusable _)

theorem Ends.guardCp1 (hr : Ends P r) : Ends P (guardCp1 s r) := by
  intro t ht
  obtain h | rfl := guardCp1_next s t r ht
  · exact hr t h
  · exact hx _ (.unusable _)

theorem Ends.cop2Stub : Ends P (cop2Stub s) := by
  intro t ht
  rw [cop2Stub_next s t ht]
  exact hx _ (.unusable _)

theorem Ends.trapIf {c : Bool} (hs : P s) : Ends P (trapIf s c) := by
  intro t ht
  obtain rfl | rfl := trapIf_next s t c ht
  · exact hs
  · exact hx _ (.exception _)

theorem Ends.loadThen {va : DWord} {n : Nat} {k : PAddr × DWord → Result} (hk : ∀ a, Ends P (k a)) :
    Ends P ((load s va n).andThen k) := by
  intro t ht
  obtain ⟨a, -, ha⟩ | hr := andThen_next _ _ _ ht
  · exact hk a t ha
  · exact hx t (.of_access (load_raised _ _ _ _ hr))

theorem Ends.storeThen {va : DWord} {n : Nat} {v : DWord} {k : State → Result}
    (hk : ∀ cells, Ends P (k (s.writeCells cells))) : Ends P ((store s va n v).andThen k) := by
  intro t ht
  obtain ⟨u, hu, hv⟩ | hr := andThen_next _ _ _ ht
  · obtain ⟨pa, -, rfl⟩ := store_done _ _ _ _ _ hu
    exact hk _ t hv
  · exact hx t (.of_access (store_raised _ _ _ _ _ hr))

theorem Ends.partThen {a : AccessKind} {va : DWord} {n : Nat} {k : Nat × Nat → Result} (hk : ∀ b, Ends P (k b)) :
    Ends P ((partAddr s a va n).andThen k) := by
  intro t ht
  obtain ⟨b, -, hb⟩ | hr := andThen_next _ _ _ ht
  · exact hk b t hb
  · exact hx t (.of_access (partAddr_raised _ _ _ _ _ hr))

end templates

/-! ## Memory and the observer -/

/-- What an instruction does to memory: nothing, or it writes bytes, and the observer stays only when none of them is
in its line. -/
def WritesSeen (s t : State) : Prop :=
  t.mem = s.mem ∨
    ∃ cells, t.mem = Memory.writeCells s.mem cells ∧ (t.llbit = true → ∀ c ∈ cells, s.inLine c.1 = false)

theorem WritesSeen.of_mem {s t : State} (h : t.mem = s.mem) : WritesSeen s t := .inl h

theorem WritesSeen.of_raised {s t : State} (h : Raised s t) : WritesSeen s t := .inl h.mem

theorem WritesSeen.writeCells (s : State) (cells : List Host.Cell) : WritesSeen s (s.writeCells cells) := by
  refine .inr ⟨cells, rfl, fun h c hc => ?_⟩
  simp only [State.writeCells, Bool.and_eq_true, Bool.not_eq_true', List.any_eq_false, Bool.not_eq_true] at h
  exact h.2 c hc

/-- A byte of the observed line that reads otherwise was written, so the observer is gone. -/
theorem WritesSeen.llbit_false {s t : State} (h : WritesSeen s t) (a : Nat) (hline : s.inLine a = true)
    (hne : Memory.readByte t.mem a ≠ Memory.readByte s.mem a) : t.llbit = false := by
  obtain hmem | ⟨cells, hmem, hseen⟩ := h
  · exact absurd (by rw [hmem]) hne
  · by_contra hset
    rw [Bool.not_eq_false] at hset
    refine hne ?_
    rw [hmem]
    refine readByte_writeCells_out _ _ _ fun hin => ?_
    obtain ⟨c, hc, rfl⟩ := List.mem_map.1 hin
    simp [hseen hset c hc] at hline

/-- A store conditional that stores has no observer left (R385). -/
theorem storeConditional_writesSeen (s : State) (rt : Reg) (va : DWord) (n : Nat) :
    Ends (WritesSeen s) (storeConditional s rt va n) := by
  unfold storeConditional
  split
  · exact .storeThen (fun t ht => .of_mem ht.mem) fun cells =>
      .next (.inr ⟨cells, setX_mem .., fun h => absurd h (by simp [State.writeCells])⟩)
  · exact .next (.of_mem (setX_mem ..))

theorem writeFcr_mem (s : State) (n : CReg) (v : Word) : (s.writeFcr n v).mem = s.mem := by
  unfold State.writeFcr
  split
  · dsimp only
    split <;> simp
  · rfl

section finish
variable {s : State} {fl : FpFlags}

theorem fpFinishS_writesSeen {fd : FReg} {b : Nat} : Ends (WritesSeen s) (fpFinish s fl (commitS fd b)) :=
  .fpFinish (fun _ => .of_mem (raise_mem ..)) fun _ => .next (.of_mem (writeF32_mem ..))

theorem fpFinishD_writesSeen {fd : FReg} {b : Nat} : Ends (WritesSeen s) (fpFinish s fl (commitD fd b)) :=
  .fpFinish (fun _ => .of_mem (raise_mem ..)) fun _ => .commitF64 fun _ => .of_mem rfl

theorem fpFinishC_writesSeen {c : Bool} : Ends (WritesSeen s) (fpFinish s fl (commitC c)) :=
  .fpFinish (fun _ => .of_mem (raise_mem ..)) fun _ => .next (.of_mem rfl)

end finish

/-- Every instruction leaves memory alone, or the observer sees the bytes it writes. -/
theorem exec_writesSeen (s : State) (i : Instr) : Ends (WritesSeen s) (exec i s) := by
  have hx : ∀ t, Raised s t → WritesSeen s t := fun _ => .of_raised
  have raised (c : ExcCode) : WritesSeen s (s.raise c) := hx _ (.exception c)
  have wrote (r : Reg) (v : DWord) : WritesSeen s (s.setX r v) := .of_mem (setX_mem ..)
  have stored (va : DWord) (n : Nat) (v : DWord) : Ends (WritesSeen s) ((store s va n v).andThen .next) :=
    .storeThen hx fun cells => .next (.writeCells s cells)
  unfold exec
  cases i with
  | add | sub | addi => exact .ite (raised _) (wrote _ _)
  | dadd | dsub | daddi => exact .guardOps64 hx (.ite (raised _) (wrote _ _))
  | addu | subu | and | or | xor | nor | slt | sltu | addiu | slti | sltiu | andi | ori | xori | lui
  | sll | srl | sra | sllv | srlv | srav | mfhi | mflo => exact .next (wrote _ _)
  | daddu | dsubu | daddiu | dsll | dsrl | dsra | dsll32 | dsrl32 | dsra32 | dsllv | dsrlv | dsrav =>
    exact .guardOps64 hx (.next (wrote _ _))
  | mult | multu | mthi | mtlo | j | jr | sync => exact .next (.of_mem rfl)
  | dmult | dmultu => exact .guardOps64 hx (.next (.of_mem rfl))
  | div | divu => exact .ite (.of_mem rfl) (.of_mem rfl)
  | ddiv | ddivu => exact .guardOps64 hx (.ite (.of_mem rfl) (.of_mem rfl))
  | jal | jalr => exact .next (.of_mem (setX_mem ..))
  | beq | bne | blez | bgtz | bltz | bgez => exact .next (.of_mem (branchIf_mem ..))
  | beql | bnel | blezl | bgtzl | bltzl | bgezl => exact .next (.of_mem (branchLikely_mem ..))
  | bltzal | bgezal => exact .next (.of_mem ((branchIf_mem ..).trans (setX_mem ..)))
  | bltzall | bgezall => exact .next (.of_mem ((branchLikely_mem ..).trans (setX_mem ..)))
  | lb | lbu | lh | lhu | lw => exact .loadThen hx fun _ => .next (wrote _ _)
  | lwu | ld => exact .guardOps64 hx (.loadThen hx fun _ => .next (wrote _ _))
  | ll => exact .loadThen hx fun _ => .next (.of_mem (setX_mem ..))
  | lld => exact .guardOps64 hx (.loadThen hx fun _ => .next (.of_mem (setX_mem ..)))
  | sb | sh | sw => exact stored _ _ _
  | sd => exact .guardOps64 hx (stored _ _ _)
  | lwl | lwr => exact .partThen hx fun _ => .next (wrote _ _)
  | ldl | ldr => exact .guardOps64 hx (.partThen hx fun _ => .next (wrote _ _))
  | swl | swr => exact .partThen hx fun _ => .next (.writeCells s _)
  | sdl | sdr => exact .guardOps64 hx (.partThen hx fun _ => .next (.writeCells s _))
  | sc => exact storeConditional_writesSeen s _ _ _
  | scd => exact .guardOps64 hx (storeConditional_writesSeen s _ _ _)
  | tge | tgeu | tlt | tltu | teq | tne | tgei | tgeiu | tlti | tltiu | teqi | tnei =>
    exact .trapIf hx (.of_mem rfl)
  | syscall | breakI => exact .next (raised _)
  | cache => exact .guardCp0 hx (.next (.of_mem rfl))
  | mfc0 => exact .guardCp0 hx (.next (wrote _ _))
  | dmfc0 => exact .guardCp0 hx (.guardOps64 hx (.next (wrote _ _)))
  | mtc0 => exact .guardCp0 hx (.next (.of_mem (wrCp0_mem ..)))
  | dmtc0 => exact .guardCp0 hx (.guardOps64 hx (.next (.of_mem (wrCp0_mem ..))))
  | tlbr =>
    refine .guardCp0 hx (.next ?_)
    split
    · exact .of_mem rfl
    · exact .of_mem rfl
  | tlbwi | tlbwr => exact .guardCp0 hx (.next (.of_mem (writeTlb_mem ..)))
  | tlbp =>
    refine .guardCp0 hx ?_
    split
    · exact .next (.of_mem rfl)
    · exact .refused _
  | eret => exact .guardCp0 hx (.next (.of_mem (returnFromException_mem ..)))
  | cop2 | lwc2 | ldc2 | swc2 | sdc2 => exact .cop2Stub hx
  | mfc1 | cfc1 => exact .guardCp1 hx (.next (wrote _ _))
  | dmfc1 => exact .guardCp1 hx (.guardOps64 hx (.withF64 fun _ => .next (wrote _ _)))
  | mtc1 | absS | movS | negS => exact .guardCp1 hx (.next (.of_mem (writeF32_mem ..)))
  | dmtc1 => exact .guardCp1 hx (.guardOps64 hx (.commitF64 fun _ => .of_mem rfl))
  | ctc1 => exact .guardCp1 hx (.next (.of_mem (writeFcr_mem ..)))
  | bc1f | bc1t => exact .guardCp1 hx (.next (.of_mem (branchIf_mem ..)))
  | bc1fl | bc1tl => exact .guardCp1 hx (.next (.of_mem (branchLikely_mem ..)))
  | lwc1 => exact .guardCp1 hx (.loadThen hx fun _ => .next (.of_mem (writeF32_mem ..)))
  | ldc1 => exact .guardCp1 hx (.loadThen hx fun _ => .commitF64 fun _ => .of_mem rfl)
  | swc1 => exact .guardCp1 hx (stored _ _ _)
  | sdc1 => exact .guardCp1 hx (.withF64 fun _ => stored _ _ _)
  | absD | movD | negD => exact .guardCp1 hx (.withF64 fun _ => .commitF64 fun _ => .of_mem rfl)
  | addS | subS | mulS | divS | sqrtS | roundWS | truncWS | ceilWS | floorWS | cvtSW | cvtWS =>
    exact .guardCp1 hx fpFinishS_writesSeen
  | roundLS | truncLS | ceilLS | floorLS | cvtDS | cvtDW | cvtLS => exact .guardCp1 hx fpFinishD_writesSeen
  | roundWD | truncWD | ceilWD | floorWD | cvtSD | cvtSL | cvtWD =>
    exact .guardCp1 hx (.withF64 fun _ => fpFinishS_writesSeen)
  | sqrtD | roundLD | truncLD | ceilLD | floorLD | cvtDL | cvtLD =>
    exact .guardCp1 hx (.withF64 fun _ => fpFinishD_writesSeen)
  | addD | subD | mulD | divD => exact .guardCp1 hx (.withF64 fun _ => .withF64 fun _ => fpFinishD_writesSeen)
  | cFS | cUnS | cEqS | cUeqS | cOltS | cUltS | cOleS | cUleS | cSfS | cNgleS | cSeqS | cNglS | cLtS | cNgeS
  | cLeS | cNgtS => exact .guardCp1 hx fpFinishC_writesSeen
  | cFD | cUnD | cEqD | cUeqD | cOltD | cUltD | cOleD | cUleD | cSfD | cNgleD | cSeqD | cNglD | cLtD | cNgeD
  | cLeD | cNgtD => exact .guardCp1 hx (.withF64 fun _ => .withF64 fun _ => fpFinishC_writesSeen)

theorem busWrite_llbit (s : State) (pa : PAddr) (v : Byte) :
    (applyInput s (.busWrite pa v)).llbit = (s.llbit && !s.inLine pa.toNat) := by
  simp [applyInput, State.writeCells]

/-- Settles O13: a changed byte of the line was written by the instruction, and the write took the observer. -/
theorem observerRemovedByWrites : Obligations.ObserverRemovedByWrites :=
  ⟨fun i s t a _ ht hline hne => (exec_writesSeen s i t ht).llbit_false a hline hne, busWrite_llbit⟩

end Sys2Proof.Machine
end

section
/-! PROOFS. Decoding gives back what was encoded, and reads the words the spec prints (R181, R182, R184). -/

namespace Sys2Proof.Laws

/-- Decoding the encoding of a well-formed instruction gives it back, by the lemma of its row. -/
theorem decode_encode (i : Instr) : RoundTrip.Statement i := by
  cases i with
  | add => apply RoundTrip.add
  | addu => apply RoundTrip.addu
  | sub => apply RoundTrip.sub
  | subu => apply RoundTrip.subu
  | dadd => apply RoundTrip.dadd
  | daddu => apply RoundTrip.daddu
  | dsub => apply RoundTrip.dsub
  | dsubu => apply RoundTrip.dsubu
  | and => apply RoundTrip.and
  | or => apply RoundTrip.or
  | xor => apply RoundTrip.xor
  | nor => apply RoundTrip.nor
  | slt => apply RoundTrip.slt
  | sltu => apply RoundTrip.sltu
  | addi => apply RoundTrip.addi
  | addiu => apply RoundTrip.addiu
  | daddi => apply RoundTrip.daddi
  | daddiu => apply RoundTrip.daddiu
  | slti => apply RoundTrip.slti
  | sltiu => apply RoundTrip.sltiu
  | andi => apply RoundTrip.andi
  | ori => apply RoundTrip.ori
  | xori => apply RoundTrip.xori
  | lui => apply RoundTrip.lui
  | sll => apply RoundTrip.sll
  | srl => apply RoundTrip.srl
  | sra => apply RoundTrip.sra
  | sllv => apply RoundTrip.sllv
  | srlv => apply RoundTrip.srlv
  | srav => apply RoundTrip.srav
  | dsll => apply RoundTrip.dsll
  | dsrl => apply RoundTrip.dsrl
  | dsra => apply RoundTrip.dsra
  | dsll32 => apply RoundTrip.dsll32
  | dsrl32 => apply RoundTrip.dsrl32
  | dsra32 => apply RoundTrip.dsra32
  | dsllv => apply RoundTrip.dsllv
  | dsrlv => apply RoundTrip.dsrlv
  | dsrav => apply RoundTrip.dsrav
  | mult => apply RoundTrip.mult
  | multu => apply RoundTrip.multu
  | div => apply RoundTrip.div
  | divu => apply RoundTrip.divu
  | dmult => apply RoundTrip.dmult
  | dmultu => apply RoundTrip.dmultu
  | ddiv => apply RoundTrip.ddiv
  | ddivu => apply RoundTrip.ddivu
  | mfhi => apply RoundTrip.mfhi
  | mthi => apply RoundTrip.mthi
  | mflo => apply RoundTrip.mflo
  | mtlo => apply RoundTrip.mtlo
  | j => apply RoundTrip.j
  | jal => apply RoundTrip.jal
  | jr => apply RoundTrip.jr
  | jalr => apply RoundTrip.jalr
  | beq => apply RoundTrip.beq
  | bne => apply RoundTrip.bne
  | blez => apply RoundTrip.blez
  | bgtz => apply RoundTrip.bgtz
  | beql => apply RoundTrip.beql
  | bnel => apply RoundTrip.bnel
  | blezl => apply RoundTrip.blezl
  | bgtzl => apply RoundTrip.bgtzl
  | bltz => apply RoundTrip.bltz
  | bgez => apply RoundTrip.bgez
  | bltzl => apply RoundTrip.bltzl
  | bgezl => apply RoundTrip.bgezl
  | bltzal => apply RoundTrip.bltzal
  | bgezal => apply RoundTrip.bgezal
  | bltzall => apply RoundTrip.bltzall
  | bgezall => apply RoundTrip.bgezall
  | lb => apply RoundTrip.lb
  | lbu => apply RoundTrip.lbu
  | lh => apply RoundTrip.lh
  | lhu => apply RoundTrip.lhu
  | lw => apply RoundTrip.lw
  | lwu => apply RoundTrip.lwu
  | ld => apply RoundTrip.ld
  | sb => apply RoundTrip.sb
  | sh => apply RoundTrip.sh
  | sw => apply RoundTrip.sw
  | sd => apply RoundTrip.sd
  | lwl => apply RoundTrip.lwl
  | lwr => apply RoundTrip.lwr
  | swl => apply RoundTrip.swl
  | swr => apply RoundTrip.swr
  | ldl => apply RoundTrip.ldl
  | ldr => apply RoundTrip.ldr
  | sdl => apply RoundTrip.sdl
  | sdr => apply RoundTrip.sdr
  | ll => apply RoundTrip.ll
  | lld => apply RoundTrip.lld
  | sc => apply RoundTrip.sc
  | scd => apply RoundTrip.scd
  | tge => apply RoundTrip.tge
  | tgeu => apply RoundTrip.tgeu
  | tlt => apply RoundTrip.tlt
  | tltu => apply RoundTrip.tltu
  | teq => apply RoundTrip.teq
  | tne => apply RoundTrip.tne
  | tgei => apply RoundTrip.tgei
  | tgeiu => apply RoundTrip.tgeiu
  | tlti => apply RoundTrip.tlti
  | tltiu => apply RoundTrip.tltiu
  | teqi => apply RoundTrip.teqi
  | tnei => apply RoundTrip.tnei
  | syscall => apply RoundTrip.syscall
  | breakI => apply RoundTrip.breakI
  | sync => apply RoundTrip.sync
  | cache => apply RoundTrip.cache
  | mfc0 => apply RoundTrip.mfc0
  | dmfc0 => apply RoundTrip.dmfc0
  | mtc0 => apply RoundTrip.mtc0
  | dmtc0 => apply RoundTrip.dmtc0
  | tlbr => apply RoundTrip.tlbr
  | tlbwi => apply RoundTrip.tlbwi
  | tlbwr => apply RoundTrip.tlbwr
  | tlbp => apply RoundTrip.tlbp
  | eret => apply RoundTrip.eret
  | cop2 => apply RoundTrip.cop2
  | lwc2 => apply RoundTrip.lwc2
  | ldc2 => apply RoundTrip.ldc2
  | swc2 => apply RoundTrip.swc2
  | sdc2 => apply RoundTrip.sdc2
  | mfc1 => apply RoundTrip.mfc1
  | dmfc1 => apply RoundTrip.dmfc1
  | cfc1 => apply RoundTrip.cfc1
  | mtc1 => apply RoundTrip.mtc1
  | dmtc1 => apply RoundTrip.dmtc1
  | ctc1 => apply RoundTrip.ctc1
  | bc1f => apply RoundTrip.bc1f
  | bc1t => apply RoundTrip.bc1t
  | bc1fl => apply RoundTrip.bc1fl
  | bc1tl => apply RoundTrip.bc1tl
  | lwc1 => apply RoundTrip.lwc1
  | ldc1 => apply RoundTrip.ldc1
  | swc1 => apply RoundTrip.swc1
  | sdc1 => apply RoundTrip.sdc1
  | addS => apply RoundTrip.addS
  | addD => apply RoundTrip.addD
  | subS => apply RoundTrip.subS
  | subD => apply RoundTrip.subD
  | mulS => apply RoundTrip.mulS
  | mulD => apply RoundTrip.mulD
  | divS => apply RoundTrip.divS
  | divD => apply RoundTrip.divD
  | sqrtS => apply RoundTrip.sqrtS
  | sqrtD => apply RoundTrip.sqrtD
  | absS => apply RoundTrip.absS
  | absD => apply RoundTrip.absD
  | movS => apply RoundTrip.movS
  | movD => apply RoundTrip.movD
  | negS => apply RoundTrip.negS
  | negD => apply RoundTrip.negD
  | roundLS => apply RoundTrip.roundLS
  | roundLD => apply RoundTrip.roundLD
  | truncLS => apply RoundTrip.truncLS
  | truncLD => apply RoundTrip.truncLD
  | ceilLS => apply RoundTrip.ceilLS
  | ceilLD => apply RoundTrip.ceilLD
  | floorLS => apply RoundTrip.floorLS
  | floorLD => apply RoundTrip.floorLD
  | roundWS => apply RoundTrip.roundWS
  | roundWD => apply RoundTrip.roundWD
  | truncWS => apply RoundTrip.truncWS
  | truncWD => apply RoundTrip.truncWD
  | ceilWS => apply RoundTrip.ceilWS
  | ceilWD => apply RoundTrip.ceilWD
  | floorWS => apply RoundTrip.floorWS
  | floorWD => apply RoundTrip.floorWD
  | cvtSD => apply RoundTrip.cvtSD
  | cvtSW => apply RoundTrip.cvtSW
  | cvtSL => apply RoundTrip.cvtSL
  | cvtDS => apply RoundTrip.cvtDS
  | cvtDW => apply RoundTrip.cvtDW
  | cvtDL => apply RoundTrip.cvtDL
  | cvtWS => apply RoundTrip.cvtWS
  | cvtWD => apply RoundTrip.cvtWD
  | cvtLS => apply RoundTrip.cvtLS
  | cvtLD => apply RoundTrip.cvtLD
  | cFS => apply RoundTrip.cFS
  | cFD => apply RoundTrip.cFD
  | cUnS => apply RoundTrip.cUnS
  | cUnD => apply RoundTrip.cUnD
  | cEqS => apply RoundTrip.cEqS
  | cEqD => apply RoundTrip.cEqD
  | cUeqS => apply RoundTrip.cUeqS
  | cUeqD => apply RoundTrip.cUeqD
  | cOltS => apply RoundTrip.cOltS
  | cOltD => apply RoundTrip.cOltD
  | cUltS => apply RoundTrip.cUltS
  | cUltD => apply RoundTrip.cUltD
  | cOleS => apply RoundTrip.cOleS
  | cOleD => apply RoundTrip.cOleD
  | cUleS => apply RoundTrip.cUleS
  | cUleD => apply RoundTrip.cUleD
  | cSfS => apply RoundTrip.cSfS
  | cSfD => apply RoundTrip.cSfD
  | cNgleS => apply RoundTrip.cNgleS
  | cNgleD => apply RoundTrip.cNgleD
  | cSeqS => apply RoundTrip.cSeqS
  | cSeqD => apply RoundTrip.cSeqD
  | cNglS => apply RoundTrip.cNglS
  | cNglD => apply RoundTrip.cNglD
  | cLtS => apply RoundTrip.cLtS
  | cLtD => apply RoundTrip.cLtD
  | cNgeS => apply RoundTrip.cNgeS
  | cNgeD => apply RoundTrip.cNgeD
  | cLeS => apply RoundTrip.cLeS
  | cLeD => apply RoundTrip.cLeD
  | cNgtS => apply RoundTrip.cNgtS
  | cNgtD => apply RoundTrip.cNgtD

end Sys2Proof.Laws

namespace Sys2Proof

/-- Settles O1: one round-trip lemma per constructor. -/
theorem decodeEncodeRoundTrip : Obligations.DecodeEncodeRoundTrip := Laws.decode_encode

/-- Settles O3: the decoder evaluated on each word. -/
theorem specWordsDecode : Obligations.SpecWordsDecode := by
  unfold Obligations.SpecWordsDecode
  decide

end Sys2Proof
end

section
/-! PROOFS. The decoder against the opcode table (R184, R192, R193): a row's mask and match as fields of the word, what
each map of the decoder can answer, and the bits it looks at. -/

namespace Sys2Proof

/-! ## Masks as fields -/

/-- The bits of the field of `len` bits from bit `lo` up. -/
def wordMask (lo len : Nat) : Word := BitVec.ofNat 32 ((2 ^ len - 1) <<< lo)

theorem wordMask_getLsbD (lo len j : Nat) (hj : j < 32) :
    (wordMask lo len).getLsbD j = (decide (lo ≤ j) && decide (j - lo < len)) := by
  rw [wordMask, BitVec.getLsbD_ofNat, Nat.testBit_shiftLeft, Nat.testBit_two_pow_sub_one, decide_eq_true hj,
    Bool.true_and]

section agree
variable {w m : Word}

/-- Two words agree under a field's mask when they have the same field. -/
theorem agree_field (lo len : Nat) (hfit : lo + len ≤ 32) :
    w &&& wordMask lo len = m &&& wordMask lo len ↔ w.extractLsb' lo len = m.extractLsb' lo len := by
  constructor
  · intro h
    refine BitVec.eq_of_getLsbD_eq fun i hi => ?_
    have hbit := congrArg (·.getLsbD (lo + i)) h
    simpa [wordMask_getLsbD lo len (lo + i) (by omega), hi] using hbit
  · intro h
    refine BitVec.eq_of_getLsbD_eq fun j hj => ?_
    rw [BitVec.getLsbD_and, BitVec.getLsbD_and, wordMask_getLsbD lo len j hj]
    by_cases hin : lo ≤ j ∧ j - lo < len
    · have hbit := congrArg (·.getLsbD (j - lo)) h
      simpa [hin, Nat.add_sub_cancel' hin.1] using hbit
    · rw [← Bool.decide_and, decide_eq_false hin, Bool.and_false, Bool.and_false]

/-- Two words agree under a union of masks when they agree under each. -/
theorem agree_or (a b : Word) :
    w &&& (a ||| b) = m &&& (a ||| b) ↔ w &&& a = m &&& a ∧ w &&& b = m &&& b := by
  constructor
  · intro h
    have part (c : Word) (hc : (a ||| b) &&& c = c) : w &&& c = m &&& c := by
      rw [← hc, ← BitVec.and_assoc, ← BitVec.and_assoc, h]
    exact ⟨part a (by ext; simp +contextual), part b (by ext; simp +contextual)⟩
  · rintro ⟨ha, hb⟩
    rw [BitVec.and_or_distrib_left, BitVec.and_or_distrib_left, ha, hb]

/-! The masks of the opcode table. -/

theorem agree_opcode : w &&& 0xFC000000#32 = m &&& 0xFC000000#32 ↔ opcodeF w = opcodeF m :=
  agree_field 26 6 (by decide)

theorem agree_opcode_funct :
    w &&& 0xFC00003F#32 = m &&& 0xFC00003F#32 ↔ opcodeF w = opcodeF m ∧ functF w = functF m :=
  (agree_or _ 0x0000003F#32).trans (and_congr agree_opcode (agree_field 0 6 (by decide)))

theorem agree_opcode_sel :
    w &&& 0xFC1F0000#32 = m &&& 0xFC1F0000#32 ↔ opcodeF w = opcodeF m ∧ selF w = selF m :=
  (agree_or _ 0x001F0000#32).trans (and_congr agree_opcode (agree_field 16 5 (by decide)))

theorem agree_opcode_sub :
    w &&& 0xFFE00000#32 = m &&& 0xFFE00000#32 ↔ opcodeF w = opcodeF m ∧ subF w = subF m :=
  (agree_or _ 0x03E00000#32).trans (and_congr agree_opcode (agree_field 21 5 (by decide)))

theorem agree_opcode_sub_sel :
    w &&& 0xFFFF0000#32 = m &&& 0xFFFF0000#32 ↔ (opcodeF w = opcodeF m ∧ subF w = subF m) ∧ selF w = selF m :=
  (agree_or _ 0x001F0000#32).trans (and_congr agree_opcode_sub (agree_field 16 5 (by decide)))

theorem agree_opcode_sub_funct :
    w &&& 0xFFE0003F#32 = m &&& 0xFFE0003F#32 ↔ (opcodeF w = opcodeF m ∧ subF w = subF m) ∧ functF w = functF m :=
  (agree_or _ 0x0000003F#32).trans (and_congr agree_opcode_sub (agree_field 0 6 (by decide)))

/-- Bit 25, which selects the CO group. -/
theorem agree_bit25 :
    w &&& 0x02000000#32 = m &&& 0x02000000#32 ↔ (subF w).getLsbD 4 = (subF m).getLsbD 4 := by
  refine (agree_field 25 1 (by decide)).trans ⟨fun h => ?_, fun h => ?_⟩
  · simpa [subF] using congrArg (·.getLsbD 0) h
  · refine BitVec.eq_of_getLsbD_eq fun i hi => ?_
    obtain rfl : i = 0 := by omega
    simpa [subF] using h

theorem agree_co :
    w &&& 0xFE00003F#32 = m &&& 0xFE00003F#32 ↔
      (opcodeF w = opcodeF m ∧ functF w = functF m) ∧ (subF w).getLsbD 4 = (subF m).getLsbD 4 :=
  (agree_or 0xFC00003F#32 0x02000000#32).trans (and_congr agree_opcode_funct agree_bit25)

end agree

/-- No match has a bit outside its mask. -/
theorem tableRow_masked (i : Instr) : (tableRow i).2 &&& (tableRow i).1 = (tableRow i).2 := by
  unfold tableRow
  split <;> rfl

/-! ## What each map answers -/

theorem saF_lt (w : Word) : saF w < 32 := (w.extractLsb' 6 5).isLt
theorem opF_lt (w : Word) : opF w < 32 := (w.extractLsb' 16 5).isLt
theorem codeF_lt (w : Word) : codeF w < 1048576 := (w.extractLsb' 6 20).isLt
theorem trapCodeF_lt (w : Word) : trapCodeF w < 1024 := (w.extractLsb' 6 10).isLt
theorem cofunF_lt (w : Word) : cofunF w < 67108864 := (w.extractLsb' 0 26).isLt

/-- The kind of a reserved word, which its opcode fixes (R193). -/
def reservedKind (op : BitVec 6) : ReservedKind :=
  if op = 0x10#6 then .cop0 else if op = 0x11#6 then .cop1 else .plain

/-- A sound answer for a word: a well-formed instruction whose row has the word, or the reserved kind of its opcode. -/
def SoundFor (w : Word) : Decoded → Prop
  | .instr i => WellFormed i = true ∧ w &&& (tableRow i).1 = (tableRow i).2 &&& (tableRow i).1
  | .reserved k => k = reservedKind (opcodeF w)

section maps
variable {w : Word}

theorem SoundFor.reserved {op : BitVec 6} (hop : opcodeF w = op) : SoundFor w (.reserved (reservedKind op)) :=
  congrArg reservedKind hop.symm

theorem decodeSpecial_sound (hop : opcodeF w = 0#6) : SoundFor w (decodeSpecial w) := by
  unfold decodeSpecial
  split
  on_goal -1 => exact .reserved hop
  all_goals
    dsimp only [SoundFor, tableRow]
    exact ⟨by simp [WellFormed, saF_lt, codeF_lt, trapCodeF_lt],
      agree_opcode_funct.2 ⟨hop, BitVec.eq_of_toNat_eq ‹_›⟩⟩

theorem decodeRegimm_sound (hop : opcodeF w = 1#6) : SoundFor w (decodeRegimm w) := by
  unfold decodeRegimm
  split
  on_goal -1 => exact .reserved hop
  all_goals
    dsimp only [SoundFor, tableRow]
    exact ⟨rfl, agree_opcode_sel.2 ⟨hop, BitVec.eq_of_toNat_eq ‹_›⟩⟩

theorem decodeCo_sound (hop : opcodeF w = 0x10#6) (hco : (subF w).getLsbD 4 = true) :
    SoundFor w (decodeCo w) := by
  unfold decodeCo
  split
  -- The function code of ERET, the reserved codes, and the TLB instructions.
  case h_5 =>
    split
    next heret => subst heret; exact ⟨rfl, rfl⟩
    next => exact .reserved hop
  case h_6 => exact .reserved hop
  all_goals
    dsimp only [SoundFor, tableRow]
    exact ⟨rfl, agree_co.2 ⟨⟨hop, BitVec.eq_of_toNat_eq ‹_›⟩, hco⟩⟩

theorem decodeCop0_sound (hop : opcodeF w = 0x10#6) : SoundFor w (decodeCop0 w) := by
  unfold decodeCop0
  split
  next hco => exact decodeCo_sound hop hco
  next =>
    split
    on_goal -1 => exact .reserved hop
    all_goals
      dsimp only [SoundFor, tableRow]
      exact ⟨rfl, agree_opcode_sub.2 ⟨hop, BitVec.eq_of_toNat_eq ‹_›⟩⟩

theorem decodeBc1_sound (hop : opcodeF w = 0x11#6) (hsub : subF w = 0x08#5) : SoundFor w (decodeBc1 w) := by
  unfold decodeBc1
  split
  on_goal -1 => exact .reserved hop
  all_goals
    dsimp only [SoundFor, tableRow]
    exact ⟨rfl, agree_opcode_sub_sel.2 ⟨⟨hop, hsub⟩, BitVec.eq_of_toNat_eq ‹_›⟩⟩

theorem decodeFmtS_sound (hop : opcodeF w = 0x11#6) (hsub : subF w = 0x10#5) : SoundFor w (decodeFmtS w) := by
  unfold decodeFmtS
  split
  on_goal -1 => exact .reserved hop
  all_goals
    dsimp only [SoundFor, tableRow]
    exact ⟨rfl, agree_opcode_sub_funct.2 ⟨⟨hop, hsub⟩, BitVec.eq_of_toNat_eq ‹_›⟩⟩

theorem decodeFmtD_sound (hop : opcodeF w = 0x11#6) (hsub : subF w = 0x11#5) : SoundFor w (decodeFmtD w) := by
  unfold decodeFmtD
  split
  on_goal -1 => exact .reserved hop
  all_goals
    dsimp only [SoundFor, tableRow]
    exact ⟨rfl, agree_opcode_sub_funct.2 ⟨⟨hop, hsub⟩, BitVec.eq_of_toNat_eq ‹_›⟩⟩

theorem decodeFmtW_sound (hop : opcodeF w = 0x11#6) (hsub : subF w = 0x14#5) : SoundFor w (decodeFmtW w) := by
  unfold decodeFmtW
  split
  on_goal -1 => exact .reserved hop
  all_goals
    dsimp only [SoundFor, tableRow]
    exact ⟨rfl, agree_opcode_sub_funct.2 ⟨⟨hop, hsub⟩, BitVec.eq_of_toNat_eq ‹_›⟩⟩

theorem decodeFmtL_sound (hop : opcodeF w = 0x11#6) (hsub : subF w = 0x15#5) : SoundFor w (decodeFmtL w) := by
  unfold decodeFmtL
  split
  on_goal -1 => exact .reserved hop
  all_goals
    dsimp only [SoundFor, tableRow]
    exact ⟨rfl, agree_opcode_sub_funct.2 ⟨⟨hop, hsub⟩, BitVec.eq_of_toNat_eq ‹_›⟩⟩

theorem decodeCop1_sound (hop : opcodeF w = 0x11#6) : SoundFor w (decodeCop1 w) := by
  unfold decodeCop1
  split
  -- The selectors that lead to a map of their own, the reserved selectors, and the moves.
  case h_7 h => exact decodeBc1_sound hop (BitVec.eq_of_toNat_eq h)
  case h_8 h => exact decodeFmtS_sound hop (BitVec.eq_of_toNat_eq h)
  case h_9 h => exact decodeFmtD_sound hop (BitVec.eq_of_toNat_eq h)
  case h_10 h => exact decodeFmtW_sound hop (BitVec.eq_of_toNat_eq h)
  case h_11 h => exact decodeFmtL_sound hop (BitVec.eq_of_toNat_eq h)
  case h_12 => exact .reserved hop
  all_goals
    dsimp only [SoundFor, tableRow]
    exact ⟨rfl, agree_opcode_sub.2 ⟨hop, BitVec.eq_of_toNat_eq ‹_›⟩⟩

/-- Whatever a word is decoded to is sound. -/
theorem decode_sound (w : Word) : SoundFor w (decode w) := by
  unfold decode
  split
  -- The four opcodes that lead to a map of their own, the reserved opcodes, and the rows of the primary map.
  case h_1 h => exact decodeSpecial_sound (BitVec.eq_of_toNat_eq h)
  case h_2 h => exact decodeRegimm_sound (BitVec.eq_of_toNat_eq h)
  case h_17 h => exact decodeCop0_sound (BitVec.eq_of_toNat_eq h)
  case h_18 h => exact decodeCop1_sound (BitVec.eq_of_toNat_eq h)
  on_goal -1 => simp_all [SoundFor, reservedKind, ← BitVec.toNat_inj]
  all_goals
    dsimp only [SoundFor, tableRow]
    exact ⟨by simp [WellFormed, opF_lt, cofunF_lt], agree_opcode.2 (BitVec.eq_of_toNat_eq ‹_›)⟩

end maps

/-! ## The bits each map looks at -/

/-- The row a word is read as, if any. -/
def Decoded.row : Decoded → Option (Word × Word)
  | .instr i => some (tableRow i)
  | .reserved _ => none

theorem Decoded.row_eq_some {d : Decoded} {r : Word × Word} (h : d.row = some r) :
    ∃ j, d = .instr j ∧ tableRow j = r := by
  cases d with
  | instr j => exact ⟨j, rfl, Option.some.inj h⟩
  | reserved k => simp [Decoded.row] at h

section congruence
variable {w m : Word}

theorem decodeSpecial_row_congr (h : functF w = functF m) : (decodeSpecial w).row = (decodeSpecial m).row := by
  unfold decodeSpecial
  rw [h]
  split <;> rfl

theorem decodeRegimm_row_congr (h : selF w = selF m) : (decodeRegimm w).row = (decodeRegimm m).row := by
  unfold decodeRegimm
  rw [h]
  split <;> rfl

/-- Inside the CO group only ERET's function code looks at further bits (R623). -/
theorem decodeCo_row_congr (h : functF w = functF m) (heret : functF m ≠ 0x18#6) :
    (decodeCo w).row = (decodeCo m).row := by
  unfold decodeCo
  rw [h]
  split
  case h_5 hm => exact absurd (BitVec.eq_of_toNat_eq hm) heret
  all_goals rfl

theorem decodeBc1_row_congr (h : selF w = selF m) : (decodeBc1 w).row = (decodeBc1 m).row := by
  unfold decodeBc1
  rw [h]
  split <;> rfl

theorem decodeFmtS_row_congr (h : functF w = functF m) : (decodeFmtS w).row = (decodeFmtS m).row := by
  unfold decodeFmtS
  rw [h]
  split <;> rfl

theorem decodeFmtD_row_congr (h : functF w = functF m) : (decodeFmtD w).row = (decodeFmtD m).row := by
  unfold decodeFmtD
  rw [h]
  split <;> rfl

theorem decodeFmtW_row_congr (h : functF w = functF m) : (decodeFmtW w).row = (decodeFmtW m).row := by
  unfold decodeFmtW
  rw [h]
  split <;> rfl

theorem decodeFmtL_row_congr (h : functF w = functF m) : (decodeFmtL w).row = (decodeFmtL m).row := by
  unfold decodeFmtL
  rw [h]
  split <;> rfl

/-- The bits of a COP0 word that choose its row. -/
def examinedCop0 (m : Word) : Word :=
  if (subF m).getLsbD 4 then (if functF m = 0x18#6 then 0xFFFFFFFF#32 else 0xFE00003F#32) else 0xFFE00000#32

/-- The bits of a COP1 word that choose its row. -/
def examinedCop1 (m : Word) : Word :=
  match (subF m).toNat with
  | 0x08 => 0xFFFF0000#32
  | 0x10 | 0x11 | 0x14 | 0x15 => 0xFFE0003F#32
  | _ => 0xFFE00000#32

/-- The bits of a word that choose its row (R184). -/
def examined (m : Word) : Word :=
  match (opcodeF m).toNat with
  | 0x00 => 0xFC00003F#32
  | 0x01 => 0xFC1F0000#32
  | 0x10 => examinedCop0 m
  | 0x11 => examinedCop1 m
  | _ => 0xFC000000#32

theorem examined_tableRow (i : Instr) : examined (tableRow i).2 = (tableRow i).1 := by
  unfold tableRow
  split <;> rfl

theorem decode_tableRow (i : Instr) : (decode (tableRow i).2).row = some (tableRow i) := by
  unfold tableRow
  split <;> rfl

/-- COP0 words that agree on the bits that choose a row are read as the same row. -/
theorem decodeCop0_row_congr (h : w &&& examinedCop0 m = m &&& examinedCop0 m) :
    opcodeF w = opcodeF m ∧ (decodeCop0 w).row = (decodeCop0 m).row := by
  unfold examinedCop0 at h
  split at h
  next hco =>
    split at h
    next =>
      obtain rfl : w = m := by
        rwa [show 0xFFFFFFFF#32 = BitVec.allOnes 32 from rfl, BitVec.and_allOnes, BitVec.and_allOnes] at h
      exact ⟨rfl, rfl⟩
    next heret =>
      obtain ⟨⟨hop, hfn⟩, hbit⟩ := agree_co.1 h
      rw [decodeCop0, decodeCop0, if_pos hco, if_pos (hbit.trans hco)]
      exact ⟨hop, decodeCo_row_congr hfn heret⟩
  next hco =>
    obtain ⟨hop, hsub⟩ := agree_opcode_sub.1 h
    refine ⟨hop, ?_⟩
    rw [decodeCop0, decodeCop0, hsub, if_neg hco, if_neg hco]
    split <;> rfl

/-- COP1 words that agree on the bits that choose a row are read as the same row. -/
theorem decodeCop1_row_congr (h : w &&& examinedCop1 m = m &&& examinedCop1 m) :
    opcodeF w = opcodeF m ∧ (decodeCop1 w).row = (decodeCop1 m).row := by
  unfold examinedCop1 at h
  unfold decodeCop1
  split at h
  case h_1 hm =>
    obtain ⟨⟨hop, hsub⟩, hsel⟩ := agree_opcode_sub_sel.1 h
    rw [hsub, hm]
    exact ⟨hop, decodeBc1_row_congr hsel⟩
  case h_6 =>
    obtain ⟨hop, hsub⟩ := agree_opcode_sub.1 h
    rw [hsub]
    refine ⟨hop, ?_⟩
    split
    case h_7 | h_8 | h_9 | h_10 | h_11 => contradiction
    all_goals rfl
  all_goals
    obtain ⟨⟨hop, hsub⟩, hfn⟩ := agree_opcode_sub_funct.1 h
    rw [hsub, ‹(subF m).toNat = _›]
    refine ⟨hop, ?_⟩
  · exact decodeFmtS_row_congr hfn
  · exact decodeFmtD_row_congr hfn
  · exact decodeFmtW_row_congr hfn
  · exact decodeFmtL_row_congr hfn

/-- Words that agree on the bits that choose a row are read as the same row. -/
theorem decode_row_congr (h : w &&& examined m = m &&& examined m) : (decode w).row = (decode m).row := by
  unfold examined at h
  unfold decode
  split at h
  case h_1 hm =>
    obtain ⟨hop, hfn⟩ := agree_opcode_funct.1 h
    rw [hop, hm]
    exact decodeSpecial_row_congr hfn
  case h_2 hm =>
    obtain ⟨hop, hsel⟩ := agree_opcode_sel.1 h
    rw [hop, hm]
    exact decodeRegimm_row_congr hsel
  case h_3 hm =>
    obtain ⟨hop, hrow⟩ := decodeCop0_row_congr h
    rw [hop, hm]
    exact hrow
  case h_4 hm =>
    obtain ⟨hop, hrow⟩ := decodeCop1_row_congr h
    rw [hop, hm]
    exact hrow
  case h_5 =>
    rw [agree_opcode.1 h]
    split
    case h_1 | h_2 | h_17 | h_18 => contradiction
    all_goals rfl

end congruence

/-- Settles O2: whatever a word is decoded to is sound for it, and the decoder reads a word and the match of a row it
agrees with under the row's mask as the same row. -/
theorem decodeFollowsOpcodeTable : Obligations.DecodeFollowsOpcodeTable := by
  refine ⟨fun w i h => ?_, fun w i h => ?_⟩
  · have hs := decode_sound w
    rw [h] at hs
    obtain ⟨hwf, hrow⟩ := hs
    exact ⟨hwf, hrow.trans (tableRow_masked i)⟩
  · refine Decoded.row_eq_some ((decode_row_congr ?_).trans (decode_tableRow i))
    rw [examined_tableRow, h, tableRow_masked]

end Sys2Proof
end

section
/-! PROOFS. Reserved words and 64-bit operations that are not allowed: what they raise (R193, R194, R427, R440, R599). -/

namespace Sys2Proof
open Machine

/-! ## Reserved words -/

/-- `Fetch` reads the word whose number the four bytes spell (R112). -/
theorem fetch_numberAt {s : State} {va : DWord} {pa : PAddr} (h : AccessOk s .fetch va 4 pa) :
    fetch s va = .done (BitVec.ofNat 32 (numberAt s pa.toNat 4)) := by
  rw [fetch_ok s va pa h, ← memRead_toNat s pa.toNat 4 (by decide)]
  rfl

/-- A step that fetches a reserved word does what the word's kind says and executes nothing (R193, R220). -/
theorem step_reserved {s : State} {pa : PAddr} {k : ReservedKind} (hi : (beginStep s).interruptTaken = false)
    (hf : AccessOk (beginStep s) .fetch (beginStep s).pc 4 pa)
    (hd : decode (BitVec.ofNat 32 (numberAt (beginStep s) pa.toNat 4)) = .reserved k) :
    step s = finishStep none (execReserved k (beginStep s)) := by
  simp [step, stepWith, executeWord, hi, fetch_numberAt hf, hd]

/-- The opcode of a reserved word fixes its kind. -/
theorem decode_reserved_kind {w : Word} {k : ReservedKind} (h : decode w = .reserved k) :
    k = reservedKind (opcodeF w) := by
  have hs := decode_sound w
  rwa [h] at hs

/-- Cause E alone: bit 17 of FCR31 set, bits 16:12 clear, the rest as it was (R483). -/
theorem fcrSetCauseE_bits (v : Word) :
    HasBits (fcrSetCauseE v) fun j => if 12 ≤ j ∧ j ≤ 17 then decide (j = 17) else v.getLsbD j := by
  have hcause : ∀ j < 32, (0x0003F000#32).getLsbD j = decide (12 ≤ j ∧ j ≤ 17) := by decide
  have hE : ∀ j < 32, (0x00020000#32).getLsbD j = decide (j = 17) := by decide
  intro j hj
  rw [fcrSetCauseE, BitVec.getLsbD_or, BitVec.getLsbD_and, BitVec.getLsbD_not, hcause j hj, hE j hj]
  by_cases hin : 12 ≤ j ∧ j ≤ 17
  · simp [hin]
  · simp [hin, hj, show j ≠ 17 by omega]

/-- Settles O4: the opcode fixes the kind of the reserved word, and each kind its exception. -/
theorem reservedWordsRaise : Obligations.ReservedWordsRaise := by
  intro s pa k b w hi hf hd
  have hstep : step s = finishStep none (execReserved k b) := step_reserved hi hf hd
  have hk : k = reservedKind (w.extractLsb' 26 6) := decode_reserved_kind hd
  refine ⟨fun h0 h1 => ?_, fun hop hu => ?_, fun hop hu => ?_, fun hop hu => ?_, fun hop hu => ?_⟩
  · rw [hstep, hk, reservedKind, if_neg h0, if_neg h1]
    rfl
  · rw [hstep, hk, hop]
    exact congrArg _ (guardCp0_cpu b _ hu)
  · rw [hstep, hk, hop]
    exact congrArg _ (guardCp0_ok b _ hu)
  · rw [hstep, hk, hop]
    exact congrArg _ (guardCp1_cpu b _ hu)
  · refine ⟨fcrSetCauseE b.fcr31, fcrSetCauseE_bits _, ?_⟩
    rw [hstep, hk, hop]
    exact congrArg _ (guardCp1_ok b _ hu)

/-! ## 64-bit operations -/

/-- Settles O26: each of the instructions is guarded by `Ops64`, those of a coprocessor after its own guard. -/
theorem wideOperationsNeedOps64 : Obligations.WideOperationsNeedOps64 := by
  intro s a b c n g imm sa hk ha
  have hri (r : Result) : guardOps64 s r = .next (s.raise .ri) :=
    guardOps64_ri s r (by simp [State.ops64, hk, ha])
  refine ⟨fun i hi => ?_, fun hcu i hi => ?_, fun hcu i hi => ?_⟩
  · fin_cases hi <;> exact hri _
  · have hcp (r : Result) : guardCp0 s r = r := guardCp0_ok s r (by simp [State.cp0Usable, hcu])
    fin_cases hi <;> exact (hcp _).trans (hri _)
  · have hcp (r : Result) : guardCp1 s r = r := guardCp1_ok s r hcu
    fin_cases hi <;> exact (hcp _).trans (hri _)

end Sys2Proof
end

section
/-! PROOFS. The dispatch of a step: the advance case by case (R221), the end of a step (R224), and what a step does for
each outcome of its fetch (R112, R113, R130, R220, R222). -/

namespace Sys2Proof.Machine

/-! ## The advance (R221) -/

section advance
variable {s : State}

theorem advance_of_none (h : s.bstate = .none) : advance s = { s with pc := s.pc + 4#64 } := by
  simp only [advance, h]

theorem advance_of_delay (h : s.bstate = .delay) : advance s = { s with pc := s.btarget, bstate := .none } := by
  simp only [advance, h]

theorem advance_of_branch (h : s.bstate = .branch) :
    advance s = { s with pc := s.pc + 4#64, bstate := .delay } := by
  simp only [advance, h]

theorem advance_of_exception (h : s.bstate = .exception) : advance s = { s with bstate := .none } := by
  simp only [advance, h]

theorem advance_of_nullify (h : s.bstate = .nullify) :
    advance s = { s with pc := s.pc + 8#64, bstate := .none } := by
  simp only [advance, h]

end advance

/-- Settles O7: one equation per row of the table. -/
theorem advanceTable : Obligations.AdvanceTable := fun _ =>
  ⟨advance_of_none, advance_of_delay, advance_of_branch, advance_of_exception, advance_of_nullify⟩

/-! ## Fetches that fail (R112, R113, R130, U12) -/

theorem checkedLocate_aligned (s : State) (k : AccessKind) (va : DWord) (n : Nat) (h : va.toNat % n = 0) :
    checkedLocate s k va n = locate s k va := by
  simp [checkedLocate, h]

/-- A misaligned address and one outside the segments of the mode end alike, so their order is not seen. -/
theorem checkedLocate_addressError (s : State) (k : AccessKind) (va : DWord) (n : Nat)
    (h : va.toNat % n ≠ 0 ∨ translate s k va = .error) :
    checkedLocate s k va n = .raised (s.raiseAddressError k va) := by
  by_cases ha : va.toNat % n = 0
  · have he : translate s k va = .error := h.resolve_left (not_not_intro ha)
    simp [checkedLocate_aligned s k va n ha, locate, he]
  · exact checkedLocate_misaligned s k va n ha

theorem fetch_addressError {s : State} {va : DWord} (h : va.toNat % 4 ≠ 0 ∨ translate s .fetch va = .error) :
    fetch s va = .raised (s.raiseAddressError .fetch va) := by
  simp [fetch, checkedLocate_addressError s .fetch va 4 h]

theorem fetch_miss {s : State} {va : DWord} {m : TlbMiss} (ha : va.toNat % 4 = 0)
    (h : translate s .fetch va = .miss m) : fetch s va = .raised (s.raiseTlb m .fetch va) := by
  simp [fetch, checkedLocate_aligned s .fetch va 4 ha, locate, h]

theorem fetch_undefinedMask {s : State} {va : DWord} (ha : va.toNat % 4 = 0)
    (h : translate s .fetch va = .undefinedMask) : fetch s va = .refused .undefinedPageMask := by
  simp [fetch, checkedLocate_aligned s .fetch va 4 ha, locate, h]

/-! ## The end of a step (R221, R224) -/

/-- The advance touches neither count, so both counts are those before it. -/
theorem endStep_eq (o : Option Instr) (s : State) :
    endStep o s = { advance s with
      cycles := s.cycles + 1 + Config.extraCycles o, draws := s.draws + 1 } := by
  simp [endStep, Nat.add_assoc]

/-! ## A step without an interrupt, by the outcome of its fetch (R220, R222) -/

section step
variable {s : State} (hi : (beginStep s).interruptTaken = false)
include hi

theorem step_of_fetch_done {w : Word} (h : fetch (beginStep s) (beginStep s).pc = .done w) :
    step s = executeWord exec w (beginStep s) := by
  simp [step, stepWith, hi, h]

theorem step_of_fetch_raised {u : State} (h : fetch (beginStep s) (beginStep s).pc = .raised u) :
    step s = .next (endStep none u.forceX0) := by
  simp [step, stepWith, finishStep, hi, h]

theorem step_of_fetch_refused {q : Refusal} (h : fetch (beginStep s) (beginStep s).pc = .refused q) :
    step s = .refused q := by
  simp [step, stepWith, hi, h]

/-- A step that fetches an instruction is its `exec`, then the end of the step. -/
theorem step_instr {pa : PAddr} {i : Instr} (hf : AccessOk (beginStep s) .fetch (beginStep s).pc 4 pa)
    (hd : decode (BitVec.ofNat 32 (numberAt (beginStep s) pa.toNat 4)) = .instr i) :
    step s = finishStep (some i) (exec i (beginStep s)) := by
  rw [step_of_fetch_done hi (fetch_numberAt hf), executeWord, hd]

end step

/-- Settles O5: the fetch decides between the decoded instruction, an exception and a refusal. -/
theorem stepRunsDecodedInstruction : Obligations.StepRunsDecodedInstruction := by
  intro s pa i b hi
  refine ⟨fun hf hd => ?_, fun h => ?_, fun m ha h => ?_, fun ha h => ?_⟩
  · have hstep : step s = finishStep (some i) (exec i b) := step_instr hi hf hd
    refine ⟨fun t ht => ?_, fun q hq => ?_⟩
    · rw [hstep, ht]
      exact congrArg _ (endStep_eq (some i) t.forceX0)
    · rw [hstep, hq]
      rfl
  · exact step_of_fetch_raised hi (fetch_addressError h)
  · exact step_of_fetch_raised hi (fetch_miss ha h)
  · exact step_of_fetch_refused hi (fetch_undefinedMask ha h)

end Sys2Proof.Machine
end

section
/-! PROOFS. Integer arithmetic, logic and comparison: the operands and results as numbers, signed overflow as a number
out of range, and the four statements of the integer unit (R240 to R264). -/

namespace Sys2Proof.Machine

/-! ## Operands as numbers (R183, R240) -/

theorem toInt_low32 (v : DWord) : (low32 v).toInt = lowInt v := BitVec.toInt_setWidth v

theorem toInt_sextImm32 (imm : BitVec 16) : (sextImm32 imm).toInt = imm.toInt :=
  BitVec.toInt_signExtend_of_le (by decide)

theorem toInt_sextImm (imm : BitVec 16) : (sextImm imm).toInt = imm.toInt :=
  BitVec.toInt_signExtend_of_le (by decide)

/-- The sign-extended immediate of SLTIU, compared as an unsigned number (R260). -/
theorem toNat_sextImm (imm : BitVec 16) : ((sextImm imm).toNat : Int) = imm.toInt % 2 ^ 64 := by
  rw [sextImm, BitVec.signExtend, BitVec.toNat_ofInt]
  exact Int.toNat_of_nonneg (Int.emod_nonneg _ (by decide))

/-- The bits of a zero-extended immediate are the binary digits of its number (R183). -/
theorem getLsbD_zextImm (imm : BitVec 16) (j : Nat) (hj : j < 64) :
    (zextImm imm).getLsbD j = decide (imm.toNat / 2 ^ j % 2 = 1) := by
  rw [zextImm, BitVec.getLsbD_setWidth, ← Nat.testBit_eq_decide_div_mod_eq, BitVec.testBit_toNat]
  simp [hj]

theorem luiImm_eq (imm : BitVec 16) : luiImm imm = dwordOf (imm.toInt * 2 ^ 16) := by
  have happ : (imm ++ 0#16).toInt = imm.toInt * 2 ^ 16 := by
    rw [BitVec.toInt_append]
    simp [mul_comm]
  rw [luiImm, BitVec.signExtend, happ, dwordOf]

/-! ## Sums and differences as numbers -/

theorem dwordOf_toInt (v : DWord) : dwordOf v.toInt = v := BitVec.ofInt_toInt

theorem add_eq_dwordOf (a b : DWord) : a + b = dwordOf (a.toInt + b.toInt) := by
  rw [dwordOf_add, dwordOf_toInt, dwordOf_toInt]

theorem sub_eq_dwordOf (a b : DWord) : a - b = dwordOf (a.toInt - b.toInt) :=
  BitVec.eq_of_toInt_eq (by rw [BitVec.toInt_sub, dwordOf, BitVec.toInt_ofInt])

theorem signExtend_add (a b : Word) : (a + b).signExtend 64 = wordOf (a.toInt + b.toInt) := by
  rw [BitVec.signExtend, BitVec.toInt_add, wordOf]

theorem signExtend_sub (a b : Word) : (a - b).signExtend 64 = wordOf (a.toInt - b.toInt) := by
  rw [BitVec.signExtend, BitVec.toInt_sub, wordOf]

/-! ## Signed overflow (R240) -/

/-- The signed numbers of `w` bits, in the form `SumOrTrap` writes out. -/
def FitsSigned (w : Nat) (z : Int) : Prop := -(2 ^ (w - 1)) ≤ z ∧ z < 2 ^ (w - 1)

theorem wordOf_of_fits {z : Int} (h : FitsSigned 32 z) : wordOf z = dwordOf z := by
  obtain ⟨hlo, hhi⟩ := h
  rw [wordOf, Int.bmod_eq_of_le_mul_two (by omega) (by omega), dwordOf]

theorem saddOverflow_iff {w : Nat} (a b : BitVec w) :
    a.saddOverflow b = true ↔ ¬FitsSigned w (a.toInt + b.toInt) := by
  simp only [BitVec.saddOverflow, FitsSigned, Bool.or_eq_true, decide_eq_true_eq]
  omega

theorem ssubOverflow_iff {w : Nat} (a b : BitVec w) :
    a.ssubOverflow b = true ↔ ¬FitsSigned w (a.toInt - b.toInt) := by
  simp only [BitVec.ssubOverflow, FitsSigned, Bool.or_eq_true, decide_eq_true_eq]
  omega

/-- The rule on the sign bits is the library's, at every width. -/
theorem addSigns_eq_saddOverflow {w : Nat} (a b : BitVec w) :
    (decide (a.msb = b.msb) && decide ((a + b).msb ≠ a.msb)) = a.saddOverflow b := by
  rw [BitVec.saddOverflow_eq]
  generalize a.msb = x, b.msb = y, (a + b).msb = z
  revert x y z
  decide

theorem subSigns_eq_ssubOverflow {w : Nat} (a b : BitVec w) :
    (decide (a.msb ≠ b.msb) && decide ((a - b).msb ≠ a.msb)) = a.ssubOverflow b := by
  rw [BitVec.ssubOverflow_eq]
  generalize a.msb = x, b.msb = y, (a - b).msb = z
  revert x y z
  decide

theorem addOvf32_iff (a b : Word) : addOvf32 a b = true ↔ ¬FitsSigned 32 (a.toInt + b.toInt) := by
  rw [addOvf32, addSigns_eq_saddOverflow, saddOverflow_iff]

theorem subOvf32_iff (a b : Word) : subOvf32 a b = true ↔ ¬FitsSigned 32 (a.toInt - b.toInt) := by
  rw [subOvf32, subSigns_eq_ssubOverflow, ssubOverflow_iff]

theorem addOvf64_iff (a b : DWord) : addOvf64 a b = true ↔ ¬FitsSigned 64 (a.toInt + b.toInt) := by
  rw [addOvf64, addSigns_eq_saddOverflow, saddOverflow_iff]

theorem subOvf64_iff (a b : DWord) : subOvf64 a b = true ↔ ¬FitsSigned 64 (a.toInt - b.toInt) := by
  rw [subOvf64, subSigns_eq_ssubOverflow, ssubOverflow_iff]

/-! ## Wrapping sums (R242, R244, R246, R248, R256, R258) -/

section results
variable (s : State) (r : Reg)

theorem addWord_writesX (a b : Word) :
    WritesX s (.next (s.setX r ((a + b).signExtend 64))) r (wordOf (a.toInt + b.toInt)) :=
  signExtend_add a b ▸ setX_writesX s r _

theorem subWord_writesX (a b : Word) :
    WritesX s (.next (s.setX r ((a - b).signExtend 64))) r (wordOf (a.toInt - b.toInt)) :=
  signExtend_sub a b ▸ setX_writesX s r _

theorem addDword_writesX (h : s.ops64 = true) (a b : DWord) :
    WritesX s (guardOps64 s (.next (s.setX r (a + b)))) r (dwordOf (a.toInt + b.toInt)) := by
  rw [guardOps64_ok s _ h, ← add_eq_dwordOf]
  exact setX_writesX s r _

theorem subDword_writesX (h : s.ops64 = true) (a b : DWord) :
    WritesX s (guardOps64 s (.next (s.setX r (a - b)))) r (dwordOf (a.toInt - b.toInt)) := by
  rw [guardOps64_ok s _ h, ← sub_eq_dwordOf]
  exact setX_writesX s r _

/-! ## Trapping sums (R240, R241, R243, R245, R247, R255, R257) -/

/-- `overflowOr` meets `SumOrTrap` when its flag says that the number does not fit and its value is the number's
pattern whenever it does. -/
theorem overflowOr_sumOrTrap {bits : Nat} {z : Int} {overflow : Bool} {v : DWord}
    (hov : overflow = true ↔ ¬FitsSigned bits z) (hv : FitsSigned bits z → v = dwordOf z) :
    SumOrTrap bits s (overflowOr s overflow r v) r z := by
  refine ⟨fun hfit => ?_, fun hout => ?_⟩
  · have hno : overflow = false := Bool.eq_false_iff.2 fun h => hov.1 h hfit
    rw [hno, ← hv hfit]
    exact setX_writesX s r v
  · rw [hov.2 hout]
    rfl

theorem addWord_sumOrTrap (a b : Word) :
    SumOrTrap 32 s (overflowOr s (addOvf32 a b) r ((a + b).signExtend 64)) r (a.toInt + b.toInt) :=
  overflowOr_sumOrTrap s r (addOvf32_iff a b) fun h => (signExtend_add a b).trans (wordOf_of_fits h)

theorem subWord_sumOrTrap (a b : Word) :
    SumOrTrap 32 s (overflowOr s (subOvf32 a b) r ((a - b).signExtend 64)) r (a.toInt - b.toInt) :=
  overflowOr_sumOrTrap s r (subOvf32_iff a b) fun h => (signExtend_sub a b).trans (wordOf_of_fits h)

theorem addDword_sumOrTrap (h : s.ops64 = true) (a b : DWord) :
    SumOrTrap 64 s (guardOps64 s (overflowOr s (addOvf64 a b) r (a + b))) r (a.toInt + b.toInt) := by
  rw [guardOps64_ok s _ h]
  exact overflowOr_sumOrTrap s r (addOvf64_iff a b) fun _ => add_eq_dwordOf a b

theorem subDword_sumOrTrap (h : s.ops64 = true) (a b : DWord) :
    SumOrTrap 64 s (guardOps64 s (overflowOr s (subOvf64 a b) r (a - b))) r (a.toInt - b.toInt) := by
  rw [guardOps64_ok s _ h]
  exact overflowOr_sumOrTrap s r (subOvf64_iff a b) fun _ => sub_eq_dwordOf a b

/-! ## Logic and comparison (R249 to R254, R259 to R263) -/

theorem setX_writesBits {v : DWord} {bit : Nat → Bool} (hv : ∀ j, j < 64 → v.getLsbD j = bit j) :
    WritesBits s (.next (s.setX r v)) r bit := by
  obtain ⟨t, ht, honly, hzero, hval⟩ := setX_writesX s r v
  refine ⟨t, ht, honly, hzero, fun hr j hj => ?_⟩
  rw [hval hr, hv j hj]

/-- A comparison writes 1 or 0 by the relation its Boolean decides. -/
theorem boolWord_writesX {b : Bool} {p : Prop} [Decidable p] (h : b = true ↔ p) :
    WritesX s (.next (s.setX r (boolWord b))) r (if p then 1#64 else 0#64) := by
  have hval : boolWord b = if p then 1#64 else 0#64 := if_congr h rfl rfl
  rw [← hval]
  exact setX_writesX s r _

end results

/-! ## The statements -/

/-- Settles O27: the low words, or the doublewords, add and subtract as their signed numbers do. -/
theorem wrappingSums : Obligations.WrappingSums := by
  intro s d a b imm
  rw [← toInt_low32, ← toInt_low32, ← toInt_sextImm32]
  refine ⟨addWord_writesX s d _ _, subWord_writesX s d _ _, addWord_writesX s d _ _, fun h => ?_⟩
  rw [toInt_sextImm32, ← toInt_sextImm]
  exact ⟨addDword_writesX s d h _ _, subDword_writesX s d h _ _, addDword_writesX s d h _ _⟩

/-- Settles O28: the overflow flag says that the exact sum or difference is out of range. -/
theorem trappingSums : Obligations.TrappingSums := by
  intro s d a b imm
  rw [← toInt_low32, ← toInt_low32, ← toInt_sextImm32]
  refine ⟨addWord_sumOrTrap s d _ _, subWord_sumOrTrap s d _ _, addWord_sumOrTrap s d _ _, fun h => ?_⟩
  rw [toInt_sextImm32, ← toInt_sextImm]
  exact ⟨addDword_sumOrTrap s d h _ _, subDword_sumOrTrap s d h _ _, addDword_sumOrTrap s d h _ _⟩

/-- Settles O29: each result is a bitwise operation on the operands, read bit by bit. -/
theorem bitwiseLogic : Obligations.BitwiseLogic := by
  intro s d a b imm p q m
  have himm (j : Nat) (hj : j < 64) : (zextImm imm).getLsbD j = m j := getLsbD_zextImm imm j hj
  refine ⟨setX_writesBits s d fun j _ => BitVec.getLsbD_and .., setX_writesBits s d fun j _ => BitVec.getLsbD_or ..,
    setX_writesBits s d fun j _ => BitVec.getLsbD_xor .., setX_writesBits s d fun j hj => ?_,
    setX_writesBits s d fun j hj => ?_, setX_writesBits s d fun j hj => ?_, setX_writesBits s d fun j hj => ?_, ?_⟩
  · simp [p, q, hj]
  · rw [BitVec.getLsbD_and, himm j hj]
  · rw [BitVec.getLsbD_or, himm j hj]
  · rw [BitVec.getLsbD_xor, himm j hj]
  · rw [← luiImm_eq]
    exact setX_writesX s d _

/-- Settles O30: the comparisons of the patterns are those of their numbers. -/
theorem setOnLess : Obligations.SetOnLess := by
  intro s d a b imm
  refine ⟨boolWord_writesX s d BitVec.slt_iff_toInt_lt, boolWord_writesX s d BitVec.ult_iff_toNat_lt,
    boolWord_writesX s d ?_, boolWord_writesX s d ?_⟩
  · rw [BitVec.slt_iff_toInt_lt, toInt_sextImm]
  · rw [BitVec.ult_iff_toNat_lt, ← toNat_sextImm, Nat.cast_lt]

end Sys2Proof.Machine
end

section
/-! PROOFS. Shifts: each is a product with, or a quotient by, a power of two, and the two statements of the shifter
(R280 to R295). -/

namespace Sys2Proof.Machine

/-! ## Shifted patterns as numbers, at every width (R280) -/

theorem shiftLeft_eq_ofInt {w : Nat} (v : BitVec w) (n : Nat) : v <<< n = BitVec.ofInt w (v.toNat * 2 ^ n) := by
  have hcast : (v.toNat * 2 ^ n : Int) = (v.toNat <<< n : Nat) := by simp [Nat.shiftLeft_eq]
  rw [hcast, BitVec.ofInt_natCast]
  exact BitVec.eq_of_toNat_eq (by rw [BitVec.toNat_shiftLeft, BitVec.toNat_ofNat])

theorem ushiftRight_eq_ofInt {w : Nat} (v : BitVec w) (n : Nat) : v >>> n = BitVec.ofInt w (v.toNat / 2 ^ n) := by
  have hcast : (v.toNat / 2 ^ n : Int) = (v >>> n).toNat := by simp [Nat.shiftRight_eq_div_pow]
  rw [hcast, BitVec.ofInt_natCast, BitVec.ofNat_toNat, BitVec.setWidth_eq]

theorem sshiftRight_eq_ofInt {w : Nat} (v : BitVec w) (n : Nat) :
    v.sshiftRight n = BitVec.ofInt w (v.toInt / 2 ^ n) := by
  rw [BitVec.sshiftRight, Int.shiftRight_eq_div_pow, Nat.cast_pow, Nat.cast_ofNat]

/-! ## Operands, amounts and results (R17, R280) -/

theorem toNat_low32 (v : DWord) : (low32 v).toNat = lowNat v := BitVec.toNat_setWidth 32 v

theorem shiftAmount32_eq (v : DWord) : shiftAmount32 v = v.toNat % 32 := by
  rw [shiftAmount32, BitVec.extractLsb'_toNat, Nat.shiftRight_zero]

theorem shiftAmount64_eq (v : DWord) : shiftAmount64 v = v.toNat % 64 := by
  rw [shiftAmount64, BitVec.extractLsb'_toNat, Nat.shiftRight_zero]

theorem signExtend_ofInt (z : Int) : (BitVec.ofInt 32 z).signExtend 64 = wordOf z := by
  rw [BitVec.signExtend, BitVec.toInt_ofInt, wordOf]

/-! ## The three shifts of each width, by any amount -/

section shifts
variable (s : State) (d : Reg) (v : DWord) (n : Nat)

theorem shiftLeftWord_writesX :
    WritesX s (.next (s.setX d ((low32 v <<< n).signExtend 64))) d (wordOf (lowNat v * 2 ^ n)) := by
  rw [shiftLeft_eq_ofInt, signExtend_ofInt, toNat_low32]
  exact setX_writesX s d _

theorem ushiftRightWord_writesX :
    WritesX s (.next (s.setX d ((low32 v >>> n).signExtend 64))) d (wordOf (lowNat v / 2 ^ n)) := by
  rw [ushiftRight_eq_ofInt, signExtend_ofInt, toNat_low32]
  exact setX_writesX s d _

theorem sshiftRightWord_writesX :
    WritesX s (.next (s.setX d (((low32 v).sshiftRight n).signExtend 64))) d (wordOf (lowInt v / 2 ^ n)) := by
  rw [sshiftRight_eq_ofInt, signExtend_ofInt, toInt_low32]
  exact setX_writesX s d _

variable (h : s.ops64 = true)
include h

theorem shiftLeftDword_writesX :
    WritesX s (guardOps64 s (.next (s.setX d (v <<< n)))) d (dwordOf (v.toNat * 2 ^ n)) := by
  rw [guardOps64_ok s _ h, shiftLeft_eq_ofInt]
  exact setX_writesX s d _

theorem ushiftRightDword_writesX :
    WritesX s (guardOps64 s (.next (s.setX d (v >>> n)))) d (dwordOf (v.toNat / 2 ^ n)) := by
  rw [guardOps64_ok s _ h, ushiftRight_eq_ofInt]
  exact setX_writesX s d _

theorem sshiftRightDword_writesX :
    WritesX s (guardOps64 s (.next (s.setX d (v.sshiftRight n)))) d (dwordOf (v.toInt / 2 ^ n)) := by
  rw [guardOps64_ok s _ h, sshiftRight_eq_ofInt]
  exact setX_writesX s d _

end shifts

/-! ## The statements -/

/-- Settles O31: the fixed and the variable forms are the three shifts of the low word, the latter by bits 4:0 of
`rs`. -/
theorem wordShifts : Obligations.WordShifts := by
  intro s d a b sa _ v n
  have hn : n = shiftAmount32 (s.getX b) := (shiftAmount32_eq _).symm
  rw [hn]
  exact ⟨shiftLeftWord_writesX s d v sa, ushiftRightWord_writesX s d v sa, sshiftRightWord_writesX s d v sa,
    shiftLeftWord_writesX s d v _, ushiftRightWord_writesX s d v _, sshiftRightWord_writesX s d v _⟩

/-- Settles O32: the three groups are the three shifts of the doubleword, by the field, by the field and 32, and by
bits 5:0 of `rs`. -/
theorem doublewordShifts : Obligations.DoublewordShifts := by
  intro s d a b sa _ h v n
  have hn : n = shiftAmount64 (s.getX b) := (shiftAmount64_eq _).symm
  rw [hn]
  exact ⟨shiftLeftDword_writesX s d v sa h, ushiftRightDword_writesX s d v sa h, sshiftRightDword_writesX s d v sa h,
    shiftLeftDword_writesX s d v _ h, ushiftRightDword_writesX s d v _ h, sshiftRightDword_writesX s d v _ h,
    shiftLeftDword_writesX s d v _ h, ushiftRightDword_writesX s d v _ h, sshiftRightDword_writesX s d v _ h⟩

end Sys2Proof.Machine
end

section
/-! PROOFS. Multiply, divide, HI and LO: the halves of a product's pattern are the patterns of its number's halves, a
division ends by its divisor, and the two statements of the unit (R300 to R312). -/

namespace Sys2Proof.Machine

/-! ## The patterns of a product's halves (R301, R305) -/

theorem toNat_ofInt_eq_emod (w : Nat) (z : Int) : ((BitVec.ofInt w z).toNat : Int) = z % 2 ^ w := by
  rw [BitVec.toNat_ofInt, Nat.cast_pow, Nat.cast_ofNat]
  exact Int.toNat_of_nonneg (Int.emod_nonneg _ (by positivity))

/-- The field of `n` bits from bit `k` of a number's pattern is the pattern of the number divided by `2 ^ k`, rounded
down. -/
theorem extractLsb'_ofInt {w k n : Nat} (h : k + n ≤ w) (z : Int) :
    (BitVec.ofInt w z).extractLsb' k n = BitVec.ofInt n (z / 2 ^ k) := by
  obtain ⟨j, rfl⟩ := Nat.exists_eq_add_of_le h
  have hpos : (0 : Int) < 2 ^ k := by positivity
  have hsplit : z / 2 ^ k = z % 2 ^ (k + n + j) / 2 ^ k + 2 ^ j * (z / 2 ^ (k + n + j)) * (2 ^ n : Nat) := by
    rw [← Int.add_mul_ediv_right _ _ hpos.ne', Nat.cast_pow, Nat.cast_ofNat]
    congr 1
    nth_rw 1 [← Int.emod_add_mul_ediv z (2 ^ (k + n + j))]
    ring
  have hfield : (BitVec.ofInt (k + n + j) z).extractLsb' k n = BitVec.ofInt n (z % 2 ^ (k + n + j) / 2 ^ k) := by
    rw [BitVec.extractLsb', ← BitVec.ofInt_natCast, Nat.shiftRight_eq_div_pow, Int.natCast_ediv, toNat_ofInt_eq_emod,
      Nat.cast_pow, Nat.cast_ofNat]
  rw [hfield, hsplit]
  apply BitVec.eq_of_toInt_eq
  rw [BitVec.toInt_ofInt, BitVec.toInt_ofInt, Int.add_mul_bmod_self_right]

theorem low32_eq_zero_iff (v : DWord) : low32 v = 0#32 ↔ lowNat v = 0 := by
  rw [← toNat_low32, ← BitVec.toNat_inj, BitVec.toNat_ofNat, Nat.zero_mod]

/-! ## HI and LO written (R300) -/

section results
variable (s : State)

/-- A write of HI and LO alone, as the statements give it. -/
theorem setHiLo_writesHiLo (hi lo : DWord) : WritesHiLo s (.next (s.setHiLo hi lo)) hi lo :=
  ⟨s.setHiLo hi lo, rfl, rfl, fun _ => rfl, rfl, rfl⟩

theorem setHiLo32_ofInt_writesHiLo (hi lo : Int) :
    WritesHiLo s (.next (s.setHiLo32 (BitVec.ofInt 32 hi) (BitVec.ofInt 32 lo))) (wordOf hi) (wordOf lo) := by
  rw [State.setHiLo32, signExtend_ofInt, signExtend_ofInt]
  exact setHiLo_writesHiLo s _ _

theorem setProduct32_ofInt_writesHiLo (z : Int) :
    WritesHiLo s (.next (s.setProduct32 (BitVec.ofInt 64 z))) (wordOf (z / 2 ^ 32)) (wordOf z) := by
  rw [State.setProduct32, extractLsb'_ofInt (by decide), extractLsb'_ofInt (by decide), pow_zero, Int.ediv_one]
  exact setHiLo32_ofInt_writesHiLo s _ _

theorem setProduct32_ofNat_writesHiLo (m : Nat) :
    WritesHiLo s (.next (s.setProduct32 (BitVec.ofNat 64 m))) (wordOf (m / 2 ^ 32 : Nat)) (wordOf m) := by
  rw [← BitVec.ofInt_natCast, Int.natCast_ediv, Nat.cast_pow, Nat.cast_ofNat]
  exact setProduct32_ofInt_writesHiLo s m

theorem setProduct64_ofInt_writesHiLo (z : Int) :
    WritesHiLo s (.next (s.setProduct64 (BitVec.ofInt 128 z))) (dwordOf (z / 2 ^ 64)) (dwordOf z) := by
  rw [State.setProduct64, extractLsb'_ofInt (by decide), extractLsb'_ofInt (by decide), pow_zero, Int.ediv_one]
  exact setHiLo_writesHiLo s _ _

theorem setProduct64_ofNat_writesHiLo (m : Nat) :
    WritesHiLo s (.next (s.setProduct64 (BitVec.ofNat 128 m))) (dwordOf (m / 2 ^ 64 : Nat)) (dwordOf m) := by
  rw [← BitVec.ofInt_natCast, Int.natCast_ediv, Nat.cast_pow, Nat.cast_ofNat]
  exact setProduct64_ofInt_writesHiLo s m

theorem guardOps64_writesHiLo (h : s.ops64 = true) {r : Result} {hi lo : DWord} (hr : WritesHiLo s r hi lo) :
    WritesHiLo s (guardOps64 s r) hi lo := by
  rwa [guardOps64_ok s r h]

/-! ## Divisions (R300, R303, R304, R307, R308) -/

theorem divideResult32_zero {divisor : Word} (h : divisor = 0#32) (qr : Word × Word) :
    divideResult32 s divisor qr = .next s := by
  rw [divideResult32, if_pos h]

theorem divideResult64_zero {divisor : DWord} (h : divisor = 0#64) (qr : DWord × DWord) :
    divideResult64 s divisor qr = .next s := by
  rw [divideResult64, if_pos h]

theorem divideResult32_writesHiLo {divisor : Word} (h : divisor ≠ 0#32) (q r : Int) :
    WritesHiLo s (divideResult32 s divisor (BitVec.ofInt 32 q, BitVec.ofInt 32 r)) (wordOf r) (wordOf q) := by
  rw [divideResult32, if_neg h]
  exact setHiLo32_ofInt_writesHiLo s r q

theorem divideResult64_writesHiLo {divisor : DWord} (h : divisor ≠ 0#64) (q r : Int) :
    WritesHiLo s (divideResult64 s divisor (BitVec.ofInt 64 q, BitVec.ofInt 64 r)) (dwordOf r) (dwordOf q) := by
  rw [divideResult64, if_neg h]
  exact setHiLo_writesHiLo s _ _

theorem unsignedDivide32_writesHiLo (a : Word) {divisor : Word} (h : divisor ≠ 0#32) :
    WritesHiLo s (divideResult32 s divisor (unsignedDivide 32 a divisor))
      (wordOf (a.toNat % divisor.toNat : Nat)) (wordOf (a.toNat / divisor.toNat : Nat)) := by
  rw [unsignedDivide, ← BitVec.ofInt_natCast, ← BitVec.ofInt_natCast]
  exact divideResult32_writesHiLo s h _ _

theorem unsignedDivide64_writesHiLo (a : DWord) {divisor : DWord} (h : divisor ≠ 0#64) :
    WritesHiLo s (divideResult64 s divisor (unsignedDivide 64 a divisor))
      (dwordOf (a.toNat % divisor.toNat : Nat)) (dwordOf (a.toNat / divisor.toNat : Nat)) := by
  rw [unsignedDivide, ← BitVec.ofInt_natCast, ← BitVec.ofInt_natCast]
  exact divideResult64_writesHiLo s h _ _

end results

/-! ## The statements -/

/-- Settles O33: a product is the pattern of the exact number, and HI and LO are its two halves. -/
theorem productsAndHiLoMoves : Obligations.ProductsAndHiLoMoves := by
  intro s a b d x y
  rw [← toInt_low32, ← toInt_low32, ← toNat_low32, ← toNat_low32]
  exact ⟨setProduct32_ofInt_writesHiLo s _, setProduct32_ofNat_writesHiLo s _,
    fun h => ⟨guardOps64_writesHiLo s h (setProduct64_ofInt_writesHiLo s _),
      guardOps64_writesHiLo s h (setProduct64_ofNat_writesHiLo s _)⟩,
    setX_writesX s d s.hi, setX_writesX s d s.lo, setHiLo_writesHiLo s x s.lo, setHiLo_writesHiLo s s.hi x⟩

/-- Settles O34: a zero divisor ends the division at once; another leaves the patterns of the quotient and the
remainder. -/
theorem quotients : Obligations.Quotients := by
  intro s a b x y
  refine ⟨fun hy => ?_, fun hy => ?_, fun h hy => ?_, fun h hy => ?_⟩
  · have hzero : low32 y = 0#32 := (low32_eq_zero_iff y).2 hy
    exact ⟨divideResult32_zero s hzero _, divideResult32_zero s hzero _⟩
  · have hne : low32 y ≠ 0#32 := mt (low32_eq_zero_iff y).1 hy
    rw [← toInt_low32, ← toInt_low32, ← toNat_low32, ← toNat_low32]
    exact ⟨divideResult32_writesHiLo s hne _ _, unsignedDivide32_writesHiLo s _ hne⟩
  · exact ⟨(guardOps64_ok s _ h).trans (divideResult64_zero s hy _),
      (guardOps64_ok s _ h).trans (divideResult64_zero s hy _)⟩
  · exact ⟨guardOps64_writesHiLo s h (divideResult64_writesHiLo s hy _ _),
      guardOps64_writesHiLo s h (unsignedDivide64_writesHiLo s _ hy)⟩

end Sys2Proof.Machine
end

section
/-! PROOFS. Branches and jumps: the targets as numbers, the conditions as comparisons of signed numbers, what a branch
and a link do to the state, and the two statements of the unit (R320 to R343, R490). -/

namespace Sys2Proof.Machine

/-! ## Targets as numbers (R320, R324, R326) -/

theorem addrWrap_eq_wrapAddress (s : State) (v : DWord) : s.addrWrap v = wrapAddress s v.toInt := by
  rw [← addrWrap_dwordOf, dwordOf_toInt]

/-- The displacement of a branch is four times its offset (R320). -/
theorem signExtend_offset (off : BitVec 16) : (off ++ 0#2).signExtend 64 = dwordOf (4 * off.toInt) := by
  have happ : (off ++ 0#2).toInt = 4 * off.toInt := by
    rw [BitVec.toInt_append]
    simp
  rw [BitVec.signExtend, happ, dwordOf]

theorem branchTarget_eq (s : State) (off : BitVec 16) : branchTarget s off = relativeTarget s off := by
  have hfour : dwordOf 4 = 4#64 := rfl
  rw [branchTarget, signExtend_offset, relativeTarget, ← addrWrap_dwordOf, dwordOf_add, dwordOf_add, dwordOf_toInt,
    hfour]

/-- Clearing the offset in the 256 MiB region rounds an address down to the region (R324). -/
theorem and_regionMask_toNat (v : DWord) : (v &&& 0xFFFFFFFFF0000000#64).toNat = v.toNat / 2 ^ 28 * 2 ^ 28 := by
  have hmask : 0xFFFFFFFFF0000000#64 = BitVec.allOnes 64 <<< 28 := rfl
  rw [hmask, ← BitVec.shiftLeft_ushiftRight, BitVec.toNat_shiftLeft, BitVec.toNat_ushiftRight, Nat.shiftLeft_eq,
    Nat.shiftRight_eq_div_pow, Nat.mod_eq_of_lt (by omega)]

theorem jumpTarget_eq (s : State) (target : BitVec 26) :
    jumpTarget s target = BitVec.ofNat 64 ((s.pc + 4#64).toNat / 2 ^ 28 * 2 ^ 28 + 4 * target.toNat) := by
  have hfield : ((target ++ 0#2).setWidth 64).toNat = 4 * target.toNat := by
    rw [BitVec.toNat_setWidth_of_le (by decide), BitVec.toNat_append, BitVec.toNat_ofNat, Nat.zero_mod, Nat.or_zero,
      Nat.shiftLeft_eq, mul_comm]
  have hlt : 4 * target.toNat < 2 ^ 28 := by omega
  apply BitVec.eq_of_toNat_eq
  rw [jumpTarget, BitVec.toNat_or, and_regionMask_toNat, hfield, mul_comm, ← Nat.two_pow_add_eq_or_of_lt hlt,
    BitVec.toNat_ofNat, Nat.mod_eq_of_lt (by omega)]

/-! ## Conditions as numbers (R328 to R343, R490) -/

theorem negative_iff (v : DWord) : negative v = true ↔ v.toInt < 0 := by
  rw [negative, BitVec.msb_eq_toInt, decide_eq_true_eq]

theorem notPositive_iff (v : DWord) : notPositive v = true ↔ v.toInt ≤ 0 := by
  have hzero : v = 0#64 ↔ v.toInt = 0 := by rw [← BitVec.toInt_inj, BitVec.toInt_zero]
  rw [notPositive, BitVec.msb_eq_toInt, Bool.or_eq_true, decide_eq_true_eq, decide_eq_true_eq, hzero, le_iff_lt_or_eq]

theorem fpc_iff (s : State) : s.fpc = true ↔ s.fcr31.toNat / 2 ^ 23 % 2 = 1 := by
  rw [State.fpc, fcrC, BitVec.getLsbD, Nat.testBit_eq_decide_div_mod_eq, decide_eq_true_eq]

theorem decide_eq_iff_toInt (v w : DWord) : decide (v = w) = true ↔ v.toInt = w.toInt :=
  decide_eq_true_iff.trans BitVec.toInt_inj.symm

/-- A negated condition decides the negated relation, in whichever form the statement gives it. -/
theorem not_eq_true_iff {b : Bool} {c d : Prop} (h : b = true ↔ c) (hd : ¬c ↔ d) : (!b) = true ↔ d := by
  rw [Bool.not_eq_true', ← Bool.not_eq_true, h, hd]

/-! ## Branches and links (R321, R322, R323) -/

section results
variable (s : State) (off : BitVec 16)

theorem takeBranch_jumps (target : DWord) : Jumps s (.next (s.takeBranch target)) target :=
  ⟨s.takeBranch target, rfl, rfl, fun _ => rfl, rfl, rfl⟩

theorem takeBranch_relative_jumps : Jumps s (.next (s.takeBranch (branchTarget s off))) (relativeTarget s off) :=
  branchTarget_eq s off ▸ takeBranch_jumps s _

theorem branchIf_branches {b : Bool} {c : Prop} (h : b = true ↔ c) :
    Branches s (.next (s.branchIf b (branchTarget s off))) c (relativeTarget s off) := by
  rw [Branches, ← h]
  refine ⟨fun hb => ?_, fun hb => ?_⟩
  · rw [State.branchIf, if_pos hb]
    exact takeBranch_relative_jumps s off
  · rw [State.branchIf, if_neg hb]

theorem branchLikely_branchesLikely {b : Bool} {c : Prop} (h : b = true ↔ c) :
    BranchesLikely s (.next (s.branchLikely b (branchTarget s off))) c (relativeTarget s off) := by
  rw [BranchesLikely, ← h]
  refine ⟨fun hb => ?_, fun hb => ?_⟩
  · rw [State.branchLikely, if_pos hb]
    exact takeBranch_relative_jumps s off
  · rw [State.branchLikely, if_neg hb]

section coprocessor1
variable (h : s.cu1 = true)
include h

theorem exec_bc1f : exec (.bc1f off) s = .next (s.branchIf (!s.fpc) (branchTarget s off)) := guardCp1_ok s _ h

theorem exec_bc1t : exec (.bc1t off) s = .next (s.branchIf s.fpc (branchTarget s off)) := guardCp1_ok s _ h

theorem exec_bc1fl : exec (.bc1fl off) s = .next (s.branchLikely (!s.fpc) (branchTarget s off)) := guardCp1_ok s _ h

theorem exec_bc1tl : exec (.bc1tl off) s = .next (s.branchLikely s.fpc (branchTarget s off)) := guardCp1_ok s _ h

end coprocessor1

/-- The return address written, and the sequencer set: all that a link instruction does. -/
theorem link_linksAnd (d : Reg) (bstate : BState) (btarget : DWord) :
    LinksAnd s (.next { s.setX d (linkAddress s) with bstate := bstate, btarget := btarget }) d bstate btarget := by
  refine ⟨_, rfl, ?_, setX_otherX s d _, fun a => ?_, getX_setX_same s d _⟩
  · exact congrArg (fun t : State => { t with bstate := bstate, btarget := btarget }) (setX_eq s d _)
  · exact congrArg (Memory.readByte · a) (setX_mem s d _)

variable {b : Bool}

theorem linkBranchIf_taken (h : b = true) :
    LinksAnd s (.next ((s.setX linkReg (linkAddress s)).branchIf b (branchTarget s off))) 31 .branch
      (relativeTarget s off) := by
  rw [h, ← branchTarget_eq]
  exact link_linksAnd s _ _ _

theorem linkBranchIf_untaken (h : b = false) :
    LinksAnd s (.next ((s.setX linkReg (linkAddress s)).branchIf b (branchTarget s off))) 31 s.bstate s.btarget := by
  rw [h]
  exact link_linksAnd s linkReg s.bstate s.btarget

theorem linkBranchLikely_taken (h : b = true) :
    LinksAnd s (.next ((s.setX linkReg (linkAddress s)).branchLikely b (branchTarget s off))) 31 .branch
      (relativeTarget s off) := by
  rw [h, ← branchTarget_eq]
  exact link_linksAnd s _ _ _

theorem linkBranchLikely_untaken (h : b = false) :
    LinksAnd s (.next ((s.setX linkReg (linkAddress s)).branchLikely b (branchTarget s off))) 31 .nullify
      s.btarget := by
  rw [h]
  exact link_linksAnd s linkReg .nullify s.btarget

end results

/-! ## The statements -/

/-- Settles O35: J, JAL, JR and JALR go to the target as a number; the linking branches, by the sign of the register
before the link, are taken or not. -/
theorem jumpsAndLinks : Obligations.JumpsAndLinks := by
  intro s d a target off region reg neg rel
  have hregion : region = jumpTarget s target := (jumpTarget_eq s target).symm
  have hreg : reg = s.addrWrap (s.getX a) := (addrWrap_eq_wrapAddress s _).symm
  rw [hregion, hreg]
  refine ⟨takeBranch_jumps s _, link_linksAnd s _ _ _, takeBranch_jumps s _, link_linksAnd s _ _ _, fun h => ?_,
    fun h => ?_⟩
  · have hneg : negative (s.getX a) = true := (negative_iff _).2 h
    have hnot : (!negative (s.getX a)) = false := congrArg (!·) hneg
    exact ⟨linkBranchIf_taken s off hneg, linkBranchLikely_taken s off hneg, linkBranchIf_untaken s off hnot,
      linkBranchLikely_untaken s off hnot⟩
  · have hneg : negative (s.getX a) = false := Bool.eq_false_iff.2 (mt (negative_iff _).1 h)
    have hnot : (!negative (s.getX a)) = true := congrArg (!·) hneg
    exact ⟨linkBranchIf_taken s off hnot, linkBranchLikely_taken s off hnot, linkBranchIf_untaken s off hneg,
      linkBranchLikely_untaken s off hneg⟩

/-- Settles O36: the condition each branch decides is the comparison the statement gives, so it is taken or not by
that comparison. -/
theorem conditionalBranches : Obligations.ConditionalBranches := by
  intro s a b off x y target c
  have heq : decide (s.getX a = s.getX b) = true ↔ x = y := decide_eq_iff_toInt _ _
  have hne : decide (s.getX a ≠ s.getX b) = true ↔ x ≠ y := decide_eq_true_iff.trans BitVec.toInt_inj.symm.not
  have hle : notPositive (s.getX a) = true ↔ x ≤ 0 := notPositive_iff _
  have hgt : (!notPositive (s.getX a)) = true ↔ 0 < x := not_eq_true_iff hle not_le
  have hlt : negative (s.getX a) = true ↔ x < 0 := negative_iff _
  have hge : (!negative (s.getX a)) = true ↔ 0 ≤ x := not_eq_true_iff hlt not_lt
  have hset : s.fpc = true ↔ c = 1 := fpc_iff s
  have hclear : (!s.fpc) = true ↔ c = 0 := not_eq_true_iff hset Nat.mod_two_not_eq_one
  refine ⟨branchIf_branches s off heq, branchIf_branches s off hne, branchIf_branches s off hle,
    branchIf_branches s off hgt, branchIf_branches s off hlt, branchIf_branches s off hge,
    branchLikely_branchesLikely s off heq, branchLikely_branchesLikely s off hne,
    branchLikely_branchesLikely s off hle, branchLikely_branchesLikely s off hgt,
    branchLikely_branchesLikely s off hlt, branchLikely_branchesLikely s off hge, fun hcu => ?_⟩
  rw [exec_bc1f s off hcu, exec_bc1t s off hcu, exec_bc1fl s off hcu, exec_bc1tl s off hcu]
  exact ⟨branchIf_branches s off hclear, branchIf_branches s off hset, branchLikely_branchesLikely s off hclear,
    branchLikely_branchesLikely s off hset⟩

end Sys2Proof.Machine
end

section
/-! PROOFS. Store conditional (R143, R385, R386): without the observer it writes 0 to its register; with it the
observer is consumed first, and then the store is made as SW and SD make it. -/

namespace Sys2Proof.Machine

/-- What a store conditional that succeeds leaves: the `n` bytes of `w` stored, 1 in the register, no observer. -/
def StoredConditionally (s : State) (rt : Reg) (pa : PAddr) (r : Result) (n w : Nat) : Prop :=
  ∃ t, r = .next t ∧ t = { s with x := t.x, mem := t.mem, llbit := false } ∧ OtherX s t rt ∧
    (rt ≠ 0 → t.getX rt = 1#64) ∧ numberAt t (firstByte s pa n) n = w ∧
    ∀ b, b < firstByte s pa n ∨ firstByte s pa n + n ≤ b → Memory.readByte t.mem b = Memory.readByte s.mem b

/-- A register write is not seen by a read of memory. -/
theorem numberAt_setX (s : State) (r : Reg) (v : DWord) (a n : Nat) : numberAt (s.setX r v) a n = numberAt s a n := by
  simp [numberAt]

variable (s : State) (rt : Reg) (va : DWord) (n : Nat)

theorem storeConditional_unlinked (h : s.llbit = false) :
    WritesX s (storeConditional s rt va n) rt 0#64 := by
  have hzero : storeConditional s rt va n = .next (s.setX rt 0#64) := by simp [storeConditional, h]
  rw [hzero]
  exact setX_writesX s rt _

theorem storeConditional_stored (pa : PAddr) (hn : n = 1 ∨ n = 2 ∨ n = 4 ∨ n = 8) (hm : Memory.wf s.mem = true)
    (hl : s.llbit = true) (h : AccessOk s .store va n pa) :
    StoredConditionally s rt pa (storeConditional s rt va n) n ((s.getX rt).toNat % 2 ^ (8 * n)) := by
  let u : State := { s with llbit := false }
  have hu : AccessOk u .store va n pa := h
  rw [storeConditional_linked s rt va n hl, store_ok u va n _ pa hu, andThen_done, State.storeCellsAt,
    dataAddress_toNat u pa n hn (accessOk_aligned u .store va n pa hn hu)]
  obtain ⟨hnumber, hframe, -⟩ := writeCells_stored u (firstByte u pa n) n (s.getX rt) hm (by omega)
  refine ⟨_, rfl, ?_, setX_otherX (u.writeCells _) rt 1#64, getX_setX_same _ rt _, ?_, fun b hb => ?_⟩
  · rw [setX_mem]
    exact setX_eq (u.writeCells _) rt 1#64
  · rw [numberAt_setX]
    exact hnumber
  · rw [setX_mem]
    exact hframe b hb

/-- A misaligned store conditional raises AdES after it consumed the observer. -/
theorem storeConditional_misaligned (hl : s.llbit = true) (h : va.toNat % n ≠ 0) :
    storeConditional s rt va n = .next (State.raiseAddressError { s with llbit := false } .store va) := by
  rw [storeConditional_linked s rt va n hl]
  exact (store_faults { s with llbit := false } va n _ _).1 h

end Sys2Proof.Machine

namespace Sys2Proof
open Machine

/-- Settles O42: SC and SCD are one template, read without the observer, with it, and with it at a misaligned
address. -/
theorem storeConditional : Obligations.StoreConditional := by
  intro s rt base off pa hm va v stored trapped
  refine ⟨fun hl => ⟨?_, fun hw => ?_⟩, fun hl => ⟨fun h => ?_, fun h => ?_, fun hw h => ?_, fun hw h => ?_⟩⟩
  · rw [exec_sc]
    exact storeConditional_unlinked s rt va 4 hl
  · rw [exec_scd s rt base off hw]
    exact storeConditional_unlinked s rt va 8 hl
  · rw [exec_sc]
    exact storeConditional_stored s rt va 4 pa (by decide) hm hl h
  · rw [exec_sc]
    exact storeConditional_misaligned s rt va 4 hl h
  · rw [exec_scd s rt base off hw]
    have hst := storeConditional_stored s rt va 8 pa (by decide) hm hl h
    rwa [Nat.mod_eq_of_lt (s.getX rt).isLt] at hst
  · rw [exec_scd s rt base off hw]
    exact storeConditional_misaligned s rt va 8 hl h

end Sys2Proof
end

section
/-! PROOFS. Partial loads and stores (R363, R375 to R382): which byte of the register meets which byte of memory, then
the merge of a load and the masked write of a store, byte by byte. -/

namespace Sys2Proof.Machine

/-! ## Offsets as lanes -/

theorem byteOf_eq_shiftRight (v : DWord) (j : Nat) : byteOf v j = (v >>> (8 * j)).setWidth 8 := by
  refine BitVec.eq_of_getLsbD_eq fun i hi => ?_
  simp [byteOf, hi]

theorem byteLane_le (be : Bool) (n i : Nat) (hi : i < n) : byteLane be n i + 8 ≤ 8 * n := by
  unfold byteLane; split <;> omega

section offsets
variable (be : Bool) (n k j m : Nat)

/-- A left form joins the memory byte at offset `m` to the register byte `n - 1 - j` that its shifted lane meets. -/
theorem offsetDown_eq_some_iff (hk : k < n) (hj : j < n) :
    offsetDown be n k j = some m ↔ m < n ∧ byteLane be n m + leftShift be n k = 8 * (n - 1 - j) := by
  cases be <;> simp [offsetDown, byteLane, leftShift] <;> omega

theorem offsetDown_eq_none_iff (hk : k < n) (hj : j < n) :
    offsetDown be n k j = none ↔ 8 * (n - 1 - j) < leftShift be n k := by
  cases be <;> simp [offsetDown, leftShift] <;> omega

/-- A right form joins the memory byte at offset `m` to the register byte `j` whose shifted lane meets it. -/
theorem offsetUp_eq_some_iff (hk : k < n) :
    offsetUp be n k j = some m ↔ m < n ∧ byteLane be n m = 8 * j + rightShift be n k := by
  cases be <;> simp [offsetUp, offsetDown, byteLane, rightShift] <;> omega

theorem offsetUp_eq_none_iff (hk : k < n) :
    offsetUp be n k j = none ↔ 8 * n ≤ 8 * j + rightShift be n k := by
  cases be <;> simp [offsetUp, offsetDown, rightShift] <;> omega

end offsets

/-! ## The bits of a merge (R375, R376, R379, R380) -/

theorem allOnes_getLsbD (n i : Nat) (hn : n ≤ 8) : (allOnes n).getLsbD i = decide (i < 8 * n) := by
  rw [allOnes, BitVec.getLsbD_ofNat, Nat.testBit_two_pow_sub_one, ← Bool.decide_and]
  exact decide_eq_decide.2 (by omega)

section merges
variable (n sh i : Nat) (old mem : DWord) (hn : n ≤ 8)
include hn

theorem mergeLeft_getLsbD : (mergeLeft n sh old mem).getLsbD i =
    (decide (i < 8 * n) && if i < sh then old.getLsbD i else mem.getLsbD (i - sh)) := by
  simp only [mergeLeft, BitVec.getLsbD_and, BitVec.getLsbD_or, BitVec.getLsbD_not, BitVec.getLsbD_shiftLeft,
    allOnes_getLsbD n _ hn]
  by_cases hi : i < 8 * n
  · have hwide : i < 64 := by omega
    by_cases hsh : i < sh
    · simp [hi, hwide, hsh]
    · simp [hi, hwide, hsh, show i - sh < 8 * n by omega]
  · simp [hi]

theorem mergeRight_getLsbD (hmem : ∀ j, 8 * n ≤ j → mem.getLsbD j = false) : (mergeRight n sh old mem).getLsbD i =
    (decide (i < 8 * n) && if sh + i < 8 * n then mem.getLsbD (sh + i) else old.getLsbD i) := by
  simp only [mergeRight, BitVec.getLsbD_and, BitVec.getLsbD_or, BitVec.getLsbD_not, BitVec.getLsbD_ushiftRight,
    allOnes_getLsbD n _ hn]
  by_cases hi : i < 8 * n
  · have hwide : i < 64 := by omega
    by_cases hsh : sh + i < 8 * n
    · simp [hi, hwide, hsh]
    · simp [hi, hwide, hsh, hmem _ (not_lt.1 hsh)]
  · simp [hi]

end merges

section bytes
variable (be : Bool) (mem : Memory) (a n k j : Nat) (old : DWord) (hn : n ≤ 8) (hk : k < n) (hj : j < n)
include hn hk hj

/-- The register bytes of a left merge, from the most significant down. -/
theorem byteOf_mergeLeft : byteOf (mergeLeft n (leftShift be n k) old (memRead be mem a n)) (n - 1 - j) =
    (offsetDown be n k j).elim (byteOf old (n - 1 - j)) fun m => Memory.readByte mem (a + m) := by
  cases ho : offsetDown be n k j with
  | none =>
    have hshift := (offsetDown_eq_none_iff be n k j hk hj).1 ho
    have hwhole : 8 ∣ leftShift be n k := Nat.dvd_mul_right ..
    refine BitVec.eq_of_getLsbD_eq fun i hi => ?_
    simp only [byteOf, BitVec.getLsbD_extractLsb', mergeLeft_getLsbD _ _ _ _ _ hn, Option.elim_none]
    rw [if_pos (by omega), decide_eq_true (show 8 * (n - 1 - j) + i < 8 * n by omega), Bool.true_and]
  | some m =>
    obtain ⟨hm, hlane⟩ := (offsetDown_eq_some_iff be n k j m hk hj).1 ho
    rw [Option.elim_some, ← memRead_byte be mem a n m hm hn]
    refine BitVec.eq_of_getLsbD_eq fun i hi => ?_
    simp only [byteOf, BitVec.getLsbD_extractLsb', mergeLeft_getLsbD _ _ _ _ _ hn, BitVec.getLsbD_setWidth,
      BitVec.getLsbD_ushiftRight]
    rw [if_neg (by omega), decide_eq_true (show 8 * (n - 1 - j) + i < 8 * n by omega), Bool.true_and,
      show 8 * (n - 1 - j) + i - leftShift be n k = byteLane be n m + i by omega]

/-- The register bytes of a right merge, from the least significant up. -/
theorem byteOf_mergeRight : byteOf (mergeRight n (rightShift be n k) old (memRead be mem a n)) j =
    (offsetUp be n k j).elim (byteOf old j) fun m => Memory.readByte mem (a + m) := by
  have hhigh := memRead_high be mem a n
  cases ho : offsetUp be n k j with
  | none =>
    have hshift := (offsetUp_eq_none_iff be n k j hk).1 ho
    refine BitVec.eq_of_getLsbD_eq fun i hi => ?_
    simp only [byteOf, BitVec.getLsbD_extractLsb', mergeRight_getLsbD _ _ _ _ _ hn hhigh, Option.elim_none]
    rw [if_neg (by omega), decide_eq_true (show 8 * j + i < 8 * n by omega), Bool.true_and]
  | some m =>
    obtain ⟨hm, hlane⟩ := (offsetUp_eq_some_iff be n k j m hk).1 ho
    have hfits := byteLane_le be n m hm
    rw [Option.elim_some, ← memRead_byte be mem a n m hm hn]
    refine BitVec.eq_of_getLsbD_eq fun i hi => ?_
    simp only [byteOf, BitVec.getLsbD_extractLsb', mergeRight_getLsbD _ _ _ _ _ hn hhigh, BitVec.getLsbD_setWidth,
      BitVec.getLsbD_ushiftRight]
    rw [if_pos (by omega), decide_eq_true (show 8 * j + i < 8 * n by omega), Bool.true_and,
      show rightShift be n k + (8 * j + i) = byteLane be n m + i by omega]

end bytes

/-! ## Partial loads (R363) -/

/-- A partial access that succeeds splits the byte address the statements name. -/
theorem partAddr_partByte (s : State) (k : AccessKind) (va : DWord) (n : Nat) (pa : PAddr) (h : PartOk s k va pa) :
    partAddr s k va n = .done (partByte s pa - partByte s pa % n, partByte s pa % n) := by
  rw [partAddr_ok s k va n pa h, partByte_eq]

theorem mergedByte_iff (s t : State) (d : Reg) (a j : Nat) (o : Option Nat) :
    MergedByte s t d a j o ↔
      byteOf (t.getX d) j = o.elim (byteOf (s.getX d) j) fun m => Memory.readByte s.mem (a + m) := by
  cases o <;> rfl

/-- What a partial load asks of the extension of its `n` bytes: it keeps them, and a word is sign-extended. -/
def Extends (n : Nat) (ext : DWord → DWord) : Prop :=
  (∀ v j, j < n → byteOf (ext v) j = byteOf v j) ∧ (n = 4 → ∀ v, ext v = wordOf (lowInt (ext v)))

theorem wordOf_lowInt (v : DWord) : wordOf (lowInt v) = sextFrom 32 v := by
  rw [sextFrom_eq]
  exact congrArg dwordOf Int.bmod_bmod

theorem extends_sext32to64 : Extends 4 sext32to64 := by
  refine ⟨fun v j hj => BitVec.eq_of_getLsbD_eq fun i hi => ?_, fun _ v => ?_⟩
  · simp only [byteOf, sext32to64, BitVec.getLsbD_extractLsb', BitVec.getLsbD_signExtend, BitVec.getLsbD_setWidth]
    simp [show 8 * j + i < 64 by omega, show 8 * j + i < 32 by omega]
  · have hnum : sext32to64 v = dwordOf (Int.bmod v.toNat (2 ^ 32)) := sextFrom_eq 32 v
    rw [wordOf_lowInt, hnum, sextFrom_dwordOf 32 (by decide), Int.bmod_bmod]

theorem extends_id : Extends 8 id := ⟨fun _ _ _ => rfl, fun h => absurd h (by decide)⟩

/-- A partial load: byte `lane j` of the register is the byte at the offset `off j` of the unit, or the old byte. -/
def LoadsPart (s : State) (r : Result) (d : Reg) (n a : Nat) (lane : Nat → Nat) (off : Nat → Option Nat) : Prop :=
  ∃ t, r = .next t ∧ OnlyX s t d ∧ (d = 0 → t = s) ∧
    (d ≠ 0 → ∀ j, j < n → MergedByte s t d a (lane j) (off j)) ∧
    (n = 4 → t.getX d = if d = 0 then 0#64 else wordOf (lowInt (t.getX d)))

/-- A register write whose bytes are the merged ones is a partial load. -/
theorem WritesX.loadsPart {s : State} {r : Result} {d : Reg} {v : DWord} {n a : Nat} {lane : Nat → Nat}
    {off : Nat → Option Nat} (h : WritesX s r d v) (hsign : n = 4 → v = wordOf (lowInt v))
    (hbytes : ∀ j, j < n → byteOf v (lane j) =
      (off j).elim (byteOf (s.getX d) (lane j)) fun m => Memory.readByte s.mem (a + m)) :
    LoadsPart s r d n a lane off := by
  obtain ⟨t, hr, honly, hzero, hv⟩ := h
  refine ⟨t, hr, honly, hzero, fun hd j hj => ?_, fun h4 => ?_⟩
  · rw [mergedByte_iff, hv hd]
    exact hbytes j hj
  · split
    next hd => rw [hd, getX_zero]
    next hd => rw [hv hd]; exact hsign h4

section loads
variable (s : State) (rt : Reg) (va : DWord) (n : Nat) (ext : DWord → DWord) (pa : PAddr) (hpos : 0 < n) (hn : n ≤ 8)
  (hext : Extends n ext) (h : PartOk s .load va pa)
include hpos hn hext h

theorem loadLeft_loadsLeft : LoadsLeft s (loadLeft s rt va n ext) rt n (partByte s pa) := by
  have hk : partByte s pa % n < n := Nat.mod_lt _ hpos
  obtain ⟨hkeep, hsign⟩ := hext
  rw [loadLeft, partAddr_partByte s .load va n pa h, andThen_done]
  refine (setX_writesX s rt _).loadsPart (lane := (n - 1 - ·)) (hsign · _) fun j hj => ?_
  exact (hkeep _ _ (by omega)).trans (byteOf_mergeLeft _ _ _ n _ j _ hn hk hj)

theorem loadRight_loadsRight : LoadsRight s (loadRight s rt va n ext) rt n (partByte s pa) := by
  have hk : partByte s pa % n < n := Nat.mod_lt _ hpos
  obtain ⟨hkeep, hsign⟩ := hext
  rw [loadRight, partAddr_partByte s .load va n pa h, andThen_done]
  refine (setX_writesX s rt _).loadsPart (lane := id) (hsign · _) fun j hj => ?_
  exact (hkeep _ _ hj).trans (byteOf_mergeRight _ _ _ n _ j _ hn hk hj)

end loads

/-- Settles O39: each partial load merges the bytes of one located unit into its register, from the most significant
down or from the least significant up. -/
theorem partialLoads : Obligations.PartialLoads := by
  intro s rt base off pa h
  refine ⟨?_, ?_, fun hw => ⟨?_, ?_⟩⟩
  · rw [exec_lwl]
    exact loadLeft_loadsLeft s rt _ 4 _ pa (by decide) (by decide) extends_sext32to64 h
  · rw [exec_lwr]
    exact loadRight_loadsRight s rt _ 4 _ pa (by decide) (by decide) extends_sext32to64 h
  · rw [exec_ldl s rt base off hw]
    exact loadLeft_loadsLeft s rt _ 8 _ pa (by decide) (by decide) extends_id h
  · rw [exec_ldr s rt base off hw]
    exact loadRight_loadsRight s rt _ 8 _ pa (by decide) (by decide) extends_id h

/-! ## The cells of a masked write (R106) -/

theorem mem_maskedCells_iff (be : Bool) (a n : Nat) (v mask : DWord) (c : Host.Cell) :
    c ∈ maskedCells be a n v mask ↔ ∃ i, i < n ∧ (mask >>> byteLane be n i).setWidth 8 = 0xFF#8 ∧
      c = (a + i, (v >>> byteLane be n i).setWidth 8) := by
  simp [maskedCells, List.mem_filterMap, eq_comm (a := c)]

/-- A masked write names each address once. -/
theorem maskedCells_nodup (be : Bool) (a n : Nat) (v mask : DWord) :
    ((maskedCells be a n v mask).map Prod.fst).Nodup := by
  rw [maskedCells, List.map_filterMap]
  refine List.nodup_range.filterMap fun i j b hi hj => ?_
  simp only [Option.map_if, Option.mem_def, Option.ite_none_right_eq_some, Option.some.injEq] at hi hj
  omega

theorem byte_eq_ones_iff (b : Byte) : b = 0xFF#8 ↔ ∀ i, i < 8 → b.getLsbD i = true := by
  have hones : 0xFF#8 = BitVec.allOnes 8 := rfl
  refine ⟨fun h i hi => ?_, fun h => BitVec.eq_of_getLsbD_eq fun i hi => ?_⟩
  · rw [h, hones, BitVec.getLsbD_allOnes, decide_eq_true hi]
  · rw [h i hi, hones, BitVec.getLsbD_allOnes, decide_eq_true hi]

section masks
variable (n sh p : Nat) (v : DWord) (hn : n ≤ 8)
include hn

/-- The lanes a left mask sets whole: those that the shift takes from the low `n` bytes. -/
theorem leftMask_full_iff : (allOnes n >>> sh >>> p).setWidth 8 = 0xFF#8 ↔ p + sh + 8 ≤ 8 * n := by
  simp only [byte_eq_ones_iff, BitVec.getLsbD_setWidth, BitVec.getLsbD_ushiftRight, allOnes_getLsbD n _ hn,
    Bool.and_eq_true, decide_eq_true_eq]
  refine ⟨fun h => ?_, fun h i hi => ⟨hi, by omega⟩⟩
  obtain ⟨-, htop⟩ := h 7 (by decide)
  omega

theorem leftValue_lane (h : p + sh + 8 ≤ 8 * n) :
    ((v &&& allOnes n) >>> sh >>> p).setWidth 8 = (v >>> (p + sh)).setWidth 8 := by
  refine BitVec.eq_of_getLsbD_eq fun i hi => ?_
  simp only [BitVec.getLsbD_setWidth, BitVec.getLsbD_ushiftRight, BitVec.getLsbD_and, allOnes_getLsbD n _ hn]
  rw [decide_eq_true (show sh + (p + i) < 8 * n by omega), Bool.and_true, show sh + (p + i) = p + sh + i by omega]

/-- The lanes of the unit a right mask sets whole: those the shift reaches. -/
theorem rightMask_full_iff (h : p + 8 ≤ 8 * n) :
    (((allOnes n <<< sh) &&& allOnes n) >>> p).setWidth 8 = 0xFF#8 ↔ sh ≤ p := by
  simp only [byte_eq_ones_iff, BitVec.getLsbD_setWidth, BitVec.getLsbD_ushiftRight, BitVec.getLsbD_and,
    BitVec.getLsbD_shiftLeft, allOnes_getLsbD n _ hn, Bool.and_eq_true, Bool.not_eq_true', decide_eq_true_eq,
    decide_eq_false_iff_not]
  refine ⟨fun h => ?_, fun h i hi => by omega⟩
  obtain ⟨-, ⟨⟨-, hlow⟩, -⟩, -⟩ := h 0 (by decide)
  omega

theorem rightValue_lane (hsh : sh ≤ p) (h : p + 8 ≤ 8 * n) :
    (((v <<< sh) &&& allOnes n) >>> p).setWidth 8 = (v >>> (p - sh)).setWidth 8 := by
  refine BitVec.eq_of_getLsbD_eq fun i hi => ?_
  simp only [BitVec.getLsbD_setWidth, BitVec.getLsbD_ushiftRight, BitVec.getLsbD_and, BitVec.getLsbD_shiftLeft,
    allOnes_getLsbD n _ hn]
  rw [decide_eq_true (show p + i < 8 * n by omega), decide_eq_true (show p + i < 64 by omega),
    decide_eq_false (show ¬p + i < sh by omega), show p + i - sh = p - sh + i by omega]
  simp

end masks

section cells
variable (s : State) (n a k : Nat) (v : DWord) (c : Host.Cell) (hn : n ≤ 8) (hk : k < n)
include hn hk

/-- The cells of a left store are the register bytes from the most significant down, at the offsets there are. -/
theorem mem_leftCells_iff : c ∈ leftCells s n (a, k) v ↔
    ∃ j m, j < n ∧ offsetDown s.params.bigEndian n k j = some m ∧ c = (a + m, byteOf v (n - 1 - j)) := by
  simp only [leftCells, mem_maskedCells_iff, leftMask_full_iff n _ _ hn]
  constructor
  · rintro ⟨m, hm, hfull, rfl⟩
    have hwhole : 8 ∣ byteLane s.params.bigEndian n m + leftShift s.params.bigEndian n k :=
      Nat.dvd_add (Nat.dvd_mul_right ..) (Nat.dvd_mul_right ..)
    obtain ⟨b, hb⟩ := hwhole
    have hlane : byteLane s.params.bigEndian n m + leftShift s.params.bigEndian n k = 8 * (n - 1 - (n - 1 - b)) := by
      omega
    refine ⟨n - 1 - b, m, by omega, (offsetDown_eq_some_iff _ n k _ m hk (by omega)).2 ⟨hm, hlane⟩, ?_⟩
    rw [leftValue_lane n _ _ v hn hfull, hlane, byteOf_eq_shiftRight]
  · rintro ⟨j, m, hj, ho, rfl⟩
    obtain ⟨hm, hlane⟩ := (offsetDown_eq_some_iff _ n k j m hk hj).1 ho
    refine ⟨m, hm, by omega, ?_⟩
    rw [leftValue_lane n _ _ v hn (by omega), hlane, byteOf_eq_shiftRight]

/-- The cells of a right store are the register bytes from the least significant up, at the offsets there are. -/
theorem mem_rightCells_iff : c ∈ rightCells s n (a, k) v ↔
    ∃ j m, j < n ∧ offsetUp s.params.bigEndian n k j = some m ∧ c = (a + m, byteOf v j) := by
  simp only [rightCells, mem_maskedCells_iff]
  constructor
  · rintro ⟨m, hm, hfull, rfl⟩
    have hfits := byteLane_le s.params.bigEndian n m hm
    have hreach := (rightMask_full_iff n _ _ hn hfits).1 hfull
    have hwhole : 8 ∣ byteLane s.params.bigEndian n m - rightShift s.params.bigEndian n k :=
      Nat.dvd_sub (Nat.dvd_mul_right ..) (Nat.dvd_mul_right ..)
    obtain ⟨b, hb⟩ := hwhole
    refine ⟨b, m, by omega, (offsetUp_eq_some_iff _ n k b m hk).2 ⟨hm, by omega⟩, ?_⟩
    rw [rightValue_lane n _ _ v hn hreach hfits, hb, byteOf_eq_shiftRight]
  · rintro ⟨j, m, hj, ho, rfl⟩
    obtain ⟨hm, hlane⟩ := (offsetUp_eq_some_iff _ n k j m hk).1 ho
    have hfits := byteLane_le s.params.bigEndian n m hm
    refine ⟨m, hm, (rightMask_full_iff n _ _ hn hfits).2 (by omega), ?_⟩
    rw [rightValue_lane n _ _ v hn (by omega) hfits, hlane, Nat.add_sub_cancel, byteOf_eq_shiftRight]

end cells

/-! ## Partial stores (R106, R142, R363) -/

/-- Cells that are bytes of `v` at the offsets there are, each address once, stored. -/
theorem writeCells_storesPart (s : State) (cells : List Host.Cell) (a n : Nat) (v : DWord) (lane : Nat → Nat)
    (off : Nat → Option Nat) (hm : Memory.wf s.mem = true) (hnodup : (cells.map Prod.fst).Nodup)
    (hcells : ∀ c, c ∈ cells ↔ ∃ j m, j < n ∧ off j = some m ∧ c = (a + m, byteOf v (lane j))) :
    StoresPart s (.next (s.writeCells cells)) a n v lane off := by
  refine ⟨_, rfl, rfl, fun j m hj ho => ?_, fun b hb => ?_, ?_⟩
  · exact readByte_writeCells_in _ _ _ _ hm hnodup ((hcells _).2 ⟨j, m, hj, ho, rfl⟩)
  · refine readByte_writeCells_out _ _ _ fun hin => ?_
    obtain ⟨c, hc, rfl⟩ := List.mem_map.1 hin
    obtain ⟨j, m, hj, ho, rfl⟩ := (hcells c).1 hc
    exact hb j m hj ho rfl
  · have hline : (∀ c ∈ cells, s.inLine c.1 = false) ↔ ∀ j m, j < n → off j = some m → s.inLine (a + m) = false := by
      refine ⟨fun h j m hj ho => h _ ((hcells _).2 ⟨j, m, hj, ho, rfl⟩), fun h c hc => ?_⟩
      obtain ⟨j, m, hj, ho, rfl⟩ := (hcells c).1 hc
      exact h j m hj ho
    rw [← hline]
    simp [State.writeCells]

section stores
variable (s : State) (rt : Reg) (va : DWord) (n : Nat) (pa : PAddr) (hpos : 0 < n) (hn : n ≤ 8)
  (hm : Memory.wf s.mem = true) (h : PartOk s .store va pa)
include hpos hn hm h

theorem storeLeft_storesPart : StoresPart s (storeLeft s rt va n) (partByte s pa - partByte s pa % n) n (s.getX rt)
    (n - 1 - ·) (offsetDown s.params.bigEndian n (partByte s pa % n)) := by
  rw [storeLeft, partAddr_partByte s .store va n pa h, andThen_done]
  exact writeCells_storesPart s _ _ n _ _ _ hm (maskedCells_nodup ..)
    fun c => mem_leftCells_iff s n _ _ _ c hn (Nat.mod_lt _ hpos)

theorem storeRight_storesPart : StoresPart s (storeRight s rt va n) (partByte s pa - partByte s pa % n) n (s.getX rt)
    (fun j => j) (offsetUp s.params.bigEndian n (partByte s pa % n)) := by
  rw [storeRight, partAddr_partByte s .store va n pa h, andThen_done]
  exact writeCells_storesPart s _ _ n _ _ _ hm (maskedCells_nodup ..)
    fun c => mem_rightCells_iff s n _ _ _ c hn (Nat.mod_lt _ hpos)

end stores

/-- Settles O40: each partial store writes the bytes of its register to one located unit, from the most significant
down or from the least significant up, and only those. -/
theorem partialStores : Obligations.PartialStores := by
  intro s rt base off pa hm h e v be
  refine ⟨?_, ?_, fun hw => ⟨?_, ?_⟩⟩
  · rw [exec_swl]
    exact storeLeft_storesPart s rt _ 4 pa (by decide) (by decide) hm h
  · rw [exec_swr]
    exact storeRight_storesPart s rt _ 4 pa (by decide) (by decide) hm h
  · rw [exec_sdl s rt base off hw]
    exact storeLeft_storesPart s rt _ 8 pa (by decide) (by decide) hm h
  · rw [exec_sdr s rt base off hw]
    exact storeRight_storesPart s rt _ 8 pa (by decide) (by decide) hm h

end Sys2Proof.Machine
end

section
/-! PROOFS. Conditional traps, SYSCALL, BREAK, SYNC and CACHE (R410 to R426): the Boolean each trap decides is the
comparison of the operands' numbers, and a sign-extended immediate is an operand like a register. -/

namespace Sys2Proof.Machine

/-! ## One trap per comparison (R410 to R416) -/

section comparisons
variable (s : State) (v w : DWord)

/-- A trap is taken by the comparison its Boolean decides (R410). -/
theorem trapIf_trapsOn {b : Bool} {c : Prop} (h : b = true ↔ c) : TrapsOn s (trapIf s b) c := by
  rw [TrapsOn, ← h]
  refine ⟨fun hb => ?_, fun hb => ?_⟩
  · rw [trapIf, if_pos hb]
  · rw [trapIf, if_neg hb]

theorem ult_iff_cast_lt : v.ult w = true ↔ (v.toNat : Int) < w.toNat :=
  BitVec.ult_iff_toNat_lt.trans Nat.cast_lt.symm

theorem trapIf_slt : TrapsOn s (trapIf s (v.slt w)) (v.toInt < w.toInt) :=
  trapIf_trapsOn s BitVec.slt_iff_toInt_lt

theorem trapIf_not_slt : TrapsOn s (trapIf s (!v.slt w)) (w.toInt ≤ v.toInt) :=
  trapIf_trapsOn s (not_eq_true_iff BitVec.slt_iff_toInt_lt not_lt)

theorem trapIf_ult : TrapsOn s (trapIf s (v.ult w)) ((v.toNat : Int) < w.toNat) :=
  trapIf_trapsOn s (ult_iff_cast_lt v w)

theorem trapIf_not_ult : TrapsOn s (trapIf s (!v.ult w)) ((w.toNat : Int) ≤ v.toNat) :=
  trapIf_trapsOn s (not_eq_true_iff (ult_iff_cast_lt v w) not_lt)

theorem trapIf_eq : TrapsOn s (trapIf s (decide (v = w))) (v.toInt = w.toInt) :=
  trapIf_trapsOn s (decide_eq_iff_toInt v w)

theorem trapIf_ne : TrapsOn s (trapIf s (decide (v ≠ w))) (v.toInt ≠ w.toInt) :=
  trapIf_trapsOn s (decide_eq_true_iff.trans BitVec.toInt_inj.symm.not)

end comparisons

/-! ## The statements -/

/-- Settles O43: each trap decides its comparison, on two registers or on a register and the sign-extended
immediate. -/
theorem conditionalTraps : Obligations.ConditionalTraps := by
  intro s a b code imm
  rw [← toNat_sextImm, ← toInt_sextImm]
  exact ⟨trapIf_not_slt s _ _, trapIf_not_ult s _ _, trapIf_slt s _ _, trapIf_ult s _ _, trapIf_eq s _ _,
    trapIf_ne s _ _, trapIf_not_slt s _ _, trapIf_not_ult s _ _, trapIf_slt s _ _, trapIf_ult s _ _,
    trapIf_eq s _ _, trapIf_ne s _ _⟩

/-- Settles O44: SYSCALL and BREAK raise at the general vector, SYNC is the identity, and CACHE is one under the guard
of coprocessor 0. -/
theorem systemInstructions : Obligations.SystemInstructions :=
  fun s _ _ _ _ => ⟨rfl, rfl, rfl, guardCp0_ok s (.next s)⟩

end Sys2Proof.Machine
end

section
/-! PROOFS. Coprocessors that are not usable (R426, R440, R452, R480): the opcode of an instruction fixes the guard it
stands under, and the guard comes before every other check. -/

namespace Sys2Proof.Machine

/-- The instructions of opcode COP0, and CACHE, stand under the guard of coprocessor 0 (R426, R440). -/
theorem exec_eq_guardCp0 (i : Instr) (s : State)
    (h : opcodeF (tableRow i).2 = 0x10#6 ∨ opcodeF (tableRow i).2 = 0x2F#6) : ∃ r, exec i s = guardCp0 s r := by
  cases i with
  | mfc0 | dmfc0 | mtc0 | dmtc0 | tlbr | tlbwi | tlbwr | tlbp | eret | cache => exact ⟨_, rfl⟩
  | _ => simp [tableRow, opcodeF] at h

/-- The instructions of opcode COP1, and the loads and stores of coprocessor 1, stand under its guard (R480). -/
theorem exec_eq_guardCp1 (i : Instr) (s : State)
    (h : opcodeF (tableRow i).2 = 0x11#6 ∨ opcodeF (tableRow i).2 = 0x31#6 ∨ opcodeF (tableRow i).2 = 0x35#6 ∨
      opcodeF (tableRow i).2 = 0x39#6 ∨ opcodeF (tableRow i).2 = 0x3D#6) : ∃ r, exec i s = guardCp1 s r := by
  cases i with
  | mfc1 | dmfc1 | cfc1 | mtc1 | dmtc1 | ctc1 | bc1f | bc1t | bc1fl | bc1tl | lwc1 | ldc1 | swc1 | sdc1
  | addS | addD | subS | subD | mulS | mulD | divS | divD | sqrtS | sqrtD | absS | absD | movS | movD | negS | negD
  | roundLS | roundLD | truncLS | truncLD | ceilLS | ceilLD | floorLS | floorLD
  | roundWS | roundWD | truncWS | truncWD | ceilWS | ceilWD | floorWS | floorWD
  | cvtSD | cvtSW | cvtSL | cvtDS | cvtDW | cvtDL | cvtWS | cvtWD | cvtLS | cvtLD
  | cFS | cFD | cUnS | cUnD | cEqS | cEqD | cUeqS | cUeqD | cOltS | cOltD | cUltS | cUltD | cOleS | cOleD
  | cUleS | cUleD | cSfS | cSfD | cNgleS | cNgleD | cSeqS | cSeqD | cNglS | cNglD | cLtS | cLtD | cNgeS | cNgeD
  | cLeS | cLeD | cNgtS | cNgtD => exact ⟨_, rfl⟩
  | _ => simp [tableRow, opcodeF] at h

/-- Settles O25: the opcode puts the instruction under the guard of its coprocessor, and the guard fails. -/
theorem coprocessorUnusable : Obligations.CoprocessorUnusable := by
  intro i s opcode
  refine ⟨fun hop hk hcu => ?_, fun hop hcu => ?_⟩
  · obtain ⟨r, hr⟩ := exec_eq_guardCp0 i s hop
    exact hr.trans (guardCp0_cpu s r (by simp [State.cp0Usable, hk, hcu]))
  · obtain ⟨r, hr⟩ := exec_eq_guardCp1 i s hop
    exact hr.trans (guardCp1_cpu s r hcu)

theorem cop2Stub_cpu {s : State} (h : s.cu2 = false) : cop2Stub s = .next (s.raiseCpU 2#2) := by
  simp [cop2Stub, State.cp2Usable, h]

theorem cop2Stub_refused {s : State} (h : s.cu2 = true) : cop2Stub s = .refused .coprocessor2Enabled := by
  simp [cop2Stub, State.cp2Usable, h]

/-- Settles O49: each of the five instructions is the stub, which looks at CU2 alone. -/
theorem coprocessor2Stub : Obligations.Coprocessor2Stub := by
  intro s cofun rt base off i hi
  have hstub : exec i s = cop2Stub s := by fin_cases hi <;> rfl
  rw [hstub]
  exact ⟨cop2Stub_cpu, cop2Stub_refused⟩

end Sys2Proof.Machine
end

section
/-! PROOFS. MFC0 and DMFC0 (R441, R442): what each coprocessor-0 number reads. -/

namespace Sys2Proof.Machine

theorem sext32to64_eq_wordOf (v : DWord) : sext32to64 v = wordOf v.toInt := by
  have hnum : sext32to64 v = dwordOf (Int.bmod v.toNat (2 ^ 32)) := sextFrom_eq 32 v
  rw [hnum, wordOf, BitVec.toInt_eq_toNat_bmod, Int.bmod_bmod_of_dvd (by decide)]
  rfl

/-! ## Random, Count and Cause (R42, R50, R53) -/

theorem wiredField_eq (s : State) : s.wiredField = s.cp0.wired.toNat % 64 := by
  simp [State.wiredField]

/-- A read of Random lies from Wired up, below the size of the TLB. -/
theorem randomValue_of_wired_lt {s : State} (h : s.wiredField < 48) :
    s.wiredField ≤ s.randomValue ∧ s.randomValue < 48 := by
  have hdraw := Nat.mod_lt (Config.randomDraw s.draws) (Nat.sub_pos_of_lt h)
  rw [State.randomValue, Config.tlbSize, if_pos h]
  omega

theorem randomValue_of_wired_ge {s : State} (h : 48 ≤ s.wiredField) : s.randomValue = 47 := by
  rw [State.randomValue, Config.tlbSize, if_neg (by omega)]

theorem randomValue_lt (s : State) : s.randomValue < 48 := by
  obtain h | h := Nat.lt_or_ge s.wiredField 48
  · exact (randomValue_of_wired_lt h).2
  · rw [randomValue_of_wired_ge h]; decide

theorem rdCp0_random (s : State) : (s.rdCp0 1).toNat = s.randomValue := by
  have := randomValue_lt s
  exact Nat.mod_eq_of_lt (by omega)

theorem rdCp0_count (s : State) :
    (s.rdCp0 9).toNat = (s.countBase.toNat + (s.cycles - s.countZero) / 2) % 2 ^ 32 := by
  change (s.countNow.setWidth 64).toNat = _
  rw [BitVec.toNat_setWidth_of_le (by decide), State.countNow, State.countAt, BitVec.toNat_add, BitVec.toNat_ofNat,
    Nat.add_mod_mod]
  rfl

/-- The interrupt requests, bit by bit: two stored, five lines, and the sixth line or the timer (R641). -/
theorem causeIp_getLsbD (s : State) (i : Nat) (hi : i < 8) : s.causeIp.getLsbD i =
    if i < 2 then s.cp0.cause.getLsbD (8 + i)
    else if i < 7 then s.extIrq.getLsbD (i - 2) else s.extIrq.getLsbD 5 || s.timerPending := by
  simp only [State.causeIp, BitVec.getLsbD_append, BitVec.getLsbD_extractLsb', BitVec.getLsbD_ofBool]
  interval_cases i <;> simp

theorem causeStored_getLsbD : ∀ j < 32, causeStored.getLsbD j =
    decide ((2 ≤ j ∧ j ≤ 6) ∨ j = 8 ∨ j = 9 ∨ j = 28 ∨ j = 29 ∨ j = 31) := by decide

theorem rdCp0_cause (s : State) (j : Nat) : (s.rdCp0 13).getLsbD j =
    if 10 ≤ j ∧ j ≤ 14 then s.extIrq.getLsbD (j - 10)
    else if j = 15 then s.extIrq.getLsbD 5 || s.timerPending
    else if (2 ≤ j ∧ j ≤ 6) ∨ j = 8 ∨ j = 9 ∨ j = 28 ∨ j = 29 ∨ j = 31 then s.cp0.cause.getLsbD j else false := by
  change (s.causeValue.setWidth 64).getLsbD j = _
  by_cases hj : j < 32
  · rw [BitVec.getLsbD_setWidth, State.causeValue, BitVec.getLsbD_or, BitVec.getLsbD_and, causeStored_getLsbD j hj,
      BitVec.getLsbD_shiftLeft, BitVec.getLsbD_setWidth]
    by_cases hip : 8 ≤ j ∧ j < 16
    · rw [causeIp_getLsbD s (j - 8) (by omega)]
      grind
    · grind
  · rw [BitVec.getLsbD_setWidth, BitVec.getLsbD_of_ge _ j (by omega), Bool.and_false]
    grind

/-! ## The other numbers (R40 to R62) -/

theorem rdCp0_reserved (s : State) (n : CReg) (h : n.val = 7 ∨ (21 ≤ n.val ∧ n.val ≤ 25) ∨ n.val = 31) :
    s.rdCp0 n = 0#64 := by
  obtain rfl | rfl | rfl | rfl | rfl | rfl | rfl :
      n = 7 ∨ n = 21 ∨ n = 22 ∨ n = 23 ∨ n = 24 ∨ n = 25 ∨ n = 31 := by
    simp only [Fin.ext_iff]
    omega
  all_goals rfl

/-- Settles O45: the register is written with what its number reads, and each number reads its own cell, but Random,
Count, Cause and the reserved ones. -/
theorem moveFromCp0 : Obligations.MoveFromCp0 := by
  intro s rt n hcp c z cells
  refine ⟨?_, fun hops => ?_, fun p hp hn => ?_, ?_, ?_, ?_, rdCp0_reserved s n⟩
  · have hexec : exec (.mfc0 rt n) s = .next (s.setX rt (sext32to64 (s.rdCp0 n))) := guardCp0_ok s _ hcp
    rw [hexec, sext32to64_eq_wordOf]
    exact setX_writesX s rt _
  · have hexec : exec (.dmfc0 rt n) s = .next (s.setX rt (s.rdCp0 n)) :=
      (guardCp0_ok s _ hcp).trans (guardOps64_ok s _ hops)
    rw [hexec]
    exact setX_writesX s rt _
  · obtain rfl : n = Fin.ofNat 32 p.1 := by simp [← hn]
    simp only [cells, z, BitVec.ofNat_toNat] at hp
    fin_cases hp <;> rfl
  · rintro rfl
    rw [rdCp0_random, ← wiredField_eq]
    exact ⟨randomValue_lt s, fun h => (randomValue_of_wired_lt h).1, randomValue_of_wired_ge⟩
  · rintro rfl
    exact rdCp0_count s
  · rintro rfl j -
    exact rdCp0_cause s j

end Sys2Proof.Machine
end

section
/-! PROOFS. MTC0 and DMTC0 (R443, R444): a number takes its writable bits, and every other number reads as before. -/

namespace Sys2Proof.Machine

/-! ## Writes under a mask (R40) -/

theorem masked_getLsbD {w : Nat} (m old v : BitVec w) (j : Nat) :
    ((old &&& ~~~m) ||| (v &&& m)).getLsbD j = if m.getLsbD j then v.getLsbD j else old.getLsbD j := by
  by_cases hj : j < w
  · rw [BitVec.getLsbD_or, BitVec.getLsbD_and, BitVec.getLsbD_and, BitVec.getLsbD_not, decide_eq_true hj]
    cases m.getLsbD j <;> simp
  · simp [BitVec.getLsbD_of_ge _ j (Nat.le_of_not_lt hj)]

theorem masked64_getLsbD (m old v : DWord) (j : Nat) :
    (masked64 m old v).getLsbD j = if m.getLsbD j then v.getLsbD j else old.getLsbD j := masked_getLsbD m old v j

theorem masked32_getLsbD (m old v : Word) (j : Nat) :
    (masked32 m old v).getLsbD j = if m.getLsbD j then v.getLsbD j else old.getLsbD j := masked_getLsbD m old v j

/-- A write under the empty mask keeps the register. -/
theorem masked64_zero (old v : DWord) : old = masked64 0#64 old v :=
  BitVec.eq_of_getLsbD_eq fun j _ => by simp [masked64_getLsbD]

theorem masked_allOnes {w : Nat} (old v : BitVec w) :
    (old &&& ~~~BitVec.allOnes w) ||| (v &&& BitVec.allOnes w) = v := by simp

/-- A write under the full mask replaces the register. -/
theorem masked64_allOnes (old v : DWord) : v = masked64 (BitVec.allOnes 64) old v := (masked_allOnes old v).symm

/-- A write of a 32-bit register under a mask, in the 64 bits a read returns. -/
theorem setWidth_masked32 (m old : Word) (v : DWord) :
    (masked32 m old (v.setWidth 32)).setWidth 64 = masked64 (m.setWidth 64) (old.setWidth 64) v := by
  refine BitVec.eq_of_getLsbD_eq fun j hj => ?_
  rw [masked64_getLsbD, BitVec.getLsbD_setWidth, masked32_getLsbD]
  simp only [BitVec.getLsbD_setWidth, hj, decide_true, Bool.true_and]
  by_cases h : j < 32
  · rw [decide_eq_true h, Bool.true_and]
  · simp [BitVec.getLsbD_of_ge _ j (Nat.le_of_not_lt h)]

/-- A 32-bit register replaced, in the 64 bits a read returns. -/
theorem setWidth_eq_masked64 (old : Word) (v : DWord) :
    (v.setWidth 32).setWidth 64 = masked64 ((BitVec.allOnes 32).setWidth 64) (old.setWidth 64) v := by
  rw [← setWidth_masked32, masked32, masked_allOnes]

/-! ## The register written (R41 to R62) -/

/-- The writable bits of each coprocessor-0 number. -/
def writableBits (n : CReg) : DWord :=
  [0x8000003F#64, 0#64, 0x3FFFFFFF#64, 0x3FFFFFFF#64, 0xFFFFFFFFFF800000#64, 0x01FFE000#64, 0x3F#64, 0#64,
    0#64, 0xFFFFFFFF#64, 0xC00000FFFFFFE0FF#64, 0xFFFFFFFF#64, 0xFFFFFFFF#64, 0x300#64,
    0xFFFFFFFFFFFFFFFF#64, 0#64, 0x3F#64, 0xFFFFFFFF#64, 0xFFFFFFFB#64, 0xF#64, 0xFFFFFFFE00000000#64, 0#64,
    0#64, 0#64, 0#64, 0#64, 0xFF#64, 0#64, 0xFFFFFFFF#64, 0xFFFFFFFF#64, 0xFFFFFFFFFFFFFFFF#64, 0#64].getD n.val 0#64

/-- Count reads what was written to it: no cycle has passed since (R50). -/
theorem writeCount_countNow (s : State) (v : DWord) : (s.writeCount v).countNow = v.setWidth 32 := by
  simp [State.countNow, State.countAt, State.writeCount]

/-- A write to Cause stores the software requests alone, bits 9:8 (R53). -/
theorem wrCp0_cause_getLsbD (s : State) (v : DWord) (j : Nat) : (s.wrCp0 13 v).cp0.cause.getLsbD j =
    if j = 8 ∨ j = 9 then v.getLsbD j else s.cp0.cause.getLsbD j := by
  have hmask : ∀ j < 32, (0x300#32).getLsbD j = decide (j = 8 ∨ j = 9) := by decide
  change (masked32 0x300#32 s.cp0.cause (v.setWidth 32)).getLsbD j = _
  by_cases hj : j < 32
  · simp only [masked32_getLsbD, hmask j hj, BitVec.getLsbD_setWidth, hj]
    grind
  · rw [BitVec.getLsbD_of_ge _ j (by omega)]
    grind

theorem rdCp0_write_cause (s : State) (v : DWord) :
    (s.wrCp0 13 v).rdCp0 13 = masked64 0x300#64 (s.rdCp0 13) v := by
  have hmask : ∀ j < 64, (0x300#64).getLsbD j = decide (j = 8 ∨ j = 9) := by decide
  have hirq : (s.wrCp0 13 v).extIrq = s.extIrq := wrCp0_extIrq ..
  have htimer : (s.wrCp0 13 v).timerPending = s.timerPending := rfl
  refine BitVec.eq_of_getLsbD_eq fun j hj => ?_
  rw [masked64_getLsbD, hmask j hj, rdCp0_cause, rdCp0_cause, wrCp0_cause_getLsbD, hirq, htimer]
  grind

/-- A number written reads its writable bits as written and the others as before; the proofs stand in the order of the
numbers. -/
theorem rdCp0_wrCp0_same (s : State) (n : CReg) (v : DWord) :
    (s.wrCp0 n v).rdCp0 n = masked64 (writableBits n) (s.rdCp0 n) v := by
  fin_cases n
  exacts [setWidth_masked32 .., masked64_zero .., rfl, rfl, rfl, setWidth_masked32 .., setWidth_masked32 ..,
    masked64_zero .., masked64_zero ..,
    (congrArg (BitVec.setWidth 64) (writeCount_countNow s v)).trans (setWidth_eq_masked64 _ v),
    rfl, setWidth_eq_masked64 .., setWidth_eq_masked64 .., rdCp0_write_cause s v, masked64_allOnes ..,
    masked64_zero .., setWidth_masked32 .., setWidth_eq_masked64 .., setWidth_masked32 .., setWidth_masked32 .., rfl,
    masked64_zero .., masked64_zero .., masked64_zero .., masked64_zero .., masked64_zero .., setWidth_masked32 ..,
    masked64_zero .., setWidth_eq_masked64 .., setWidth_eq_masked64 .., masked64_allOnes .., masked64_zero ..]

/-! ## The other registers -/

/-- The numbers whose reading a write to `n` can change: `n`, Random after Wired, Cause after Compare (R46, R51). -/
def changedBy (n m : CReg) : Bool := decide (m = n) || decide (n = 6 ∧ m = 1) || decide (n = 11 ∧ m = 13)

/-- Each of the 32 reads after each of the 32 writes, by computation: the condition stands in the right side so that the
pairs it excepts hold too. -/
theorem rdCp0_wrCp0_eq_ite (s : State) (n m : CReg) (v : DWord) :
    (s.wrCp0 n v).rdCp0 m = if changedBy n m then (s.wrCp0 n v).rdCp0 m else s.rdCp0 m := by
  fin_cases n <;> fin_cases m <;> rfl

theorem rdCp0_wrCp0_of_ne (s : State) (n m : CReg) (v : DWord) (hne : m ≠ n) (hrandom : n ≠ 6 ∨ m ≠ 1)
    (hcause : n ≠ 11 ∨ m ≠ 13) : (s.wrCp0 n v).rdCp0 m = s.rdCp0 m := by
  rw [rdCp0_wrCp0_eq_ite, if_neg]
  simp [changedBy, hne, imp_iff_not_or, hrandom, hcause]

/-! ## The rest of the state -/

theorem wrCp0_eq (s : State) (n : CReg) (v : DWord) : s.wrCp0 n v =
    { s with
      cp0 := (s.wrCp0 n v).cp0
      countBase := (s.wrCp0 n v).countBase
      countZero := (s.wrCp0 n v).countZero
      timerPending := (s.wrCp0 n v).timerPending } := by
  unfold State.wrCp0
  split
  · rfl
  · split <;> rfl

/-- A write to Compare clears the timer request (R51). -/
theorem wrCp0_timerPending (s : State) (n : CReg) (v : DWord) :
    (s.wrCp0 n v).timerPending = if n = 11 then false else s.timerPending := by
  fin_cases n <;> rfl

/-- A write to Count starts it again from now (R50). -/
theorem wrCp0_countZero (s : State) (n : CReg) (v : DWord) :
    (s.wrCp0 n v).countZero = if n = 9 then s.cycles else s.countZero := by
  fin_cases n <;> rfl

/-- Settles O46: both instructions are one write of coprocessor 0, which changes its number as masked and nothing else
that is read, but Random and Cause where the statement excepts them. -/
theorem moveToCp0 : Obligations.MoveToCp0 := by
  intro s rt n hcp writable written
  have hwritten (v : DWord) : written (.next (s.wrCp0 n v)) v := by
    refine ⟨_, rfl, wrCp0_eq s n v, fun _ => by rw [wrCp0_mem], fun j _ => ?_,
      fun m => rdCp0_wrCp0_of_ne s n m v, wrCp0_timerPending s n v, wrCp0_countZero s n v⟩
    rw [rdCp0_wrCp0_same, masked64_getLsbD]
    rfl
  refine ⟨?_, fun hops => ?_⟩
  · have hexec : exec (.mtc0 rt n) s = .next (s.wrCp0 n (sext32to64 (s.getX rt))) := guardCp0_ok s _ hcp
    rw [hexec, sext32to64_eq_wordOf]
    exact hwritten _
  · have hexec : exec (.dmtc0 rt n) s = .next (s.wrCp0 n (s.getX rt)) :=
      (guardCp0_ok s _ hcp).trans (guardOps64_ok s _ hops)
    rw [hexec]
    exact hwritten _

end Sys2Proof.Machine
end

section
/-! PROOFS. TLBR, TLBWI, TLBWR and TLBP (R447 to R451): the registers as an entry and the entry as registers, in
numbers; where the probe stops; the round trip. -/

namespace Sys2Proof.Machine

/-! ## The registers as an entry (R448) -/

theorem extractLsb'_eq_ofNat {w : Nat} (v : BitVec w) (lo len : Nat) :
    v.extractLsb' lo len = BitVec.ofNat len (v.toNat / 2 ^ lo) := by
  rw [BitVec.extractLsb', Nat.shiftRight_eq_div_pow]

theorem loFromReg_eq (v : DWord) : loFromReg v =
    ⟨BitVec.ofNat 24 (v.toNat / 2 ^ 6), BitVec.ofNat 3 (v.toNat / 2 ^ 3), v.getLsbD 2, v.getLsbD 1⟩ := by
  simp only [loFromReg, extractLsb'_eq_ofNat]

theorem entryFromRegs_eq (s : State) : s.entryFromRegs =
    { mask := BitVec.ofNat 12 (s.cp0.pageMask.toNat / 2 ^ 13)
      r := BitVec.ofNat 2 (s.cp0.entryHi.toNat / 2 ^ 62)
      vpn2 := BitVec.ofNat 27 (s.cp0.entryHi.toNat / 2 ^ 13)
      asid := BitVec.ofNat 8 s.cp0.entryHi.toNat
      g := s.cp0.entryLo0.getLsbD 0 && s.cp0.entryLo1.getLsbD 0
      lo0 := loFromReg s.cp0.entryLo0
      lo1 := loFromReg s.cp0.entryLo1 } := by
  simp only [State.entryFromRegs, extractLsb'_eq_ofNat, pow_zero, Nat.div_one]

/-! ## An entry as the registers (R447) -/

theorem toNat_append_eq {m n : Nat} (x : BitVec m) (y : BitVec n) : (x ++ y).toNat = x.toNat * 2 ^ n + y.toNat := by
  rw [BitVec.toNat_append, ← Nat.shiftLeft_add_eq_or_of_lt y.isLt, Nat.shiftLeft_eq]

theorem regFromLo_toNat (l : TlbLo) (g : Bool) : (regFromLo l g).toNat =
    l.pfn.toNat * 2 ^ 6 + l.c.toNat * 2 ^ 3 + l.d.toNat * 4 + l.v.toNat * 2 + g.toNat := by
  rw [regFromLo, BitVec.toNat_setWidth_of_le (by decide)]
  simp only [toNat_append_eq, BitVec.toNat_ofBool]
  ring

theorem hiFromEntry_toNat (e : TlbEntry) :
    (hiFromEntry e).toNat = e.r.toNat * 2 ^ 62 + e.vpn2.toNat * 2 ^ 13 + e.asid.toNat := by
  simp only [hiFromEntry, toNat_append_eq, BitVec.toNat_ofNat]
  ring

theorem loadEntry_pageMask_toNat (c : Cp0) (e : TlbEntry) : (c.loadEntry e).pageMask.toNat = e.mask.toNat * 2 ^ 13 := by
  have hlt := e.mask.isLt
  change (e.mask.setWidth 32 <<< 13).toNat = _
  rw [BitVec.toNat_shiftLeft, BitVec.toNat_setWidth_of_le (by decide), Nat.shiftLeft_eq, Nat.mod_eq_of_lt (by omega)]

/-! ## The entry written (R448, R449) -/

theorem indexField_eq (s : State) : s.indexField = s.cp0.index.toNat % 64 := by
  simp [State.indexField]

/-- An Index outside the array writes nothing. -/
theorem writeTlb_of_ge (s : State) {k : Nat} (e : TlbEntry) (h : 48 ≤ k) : s.writeTlb k e = s := by
  rw [State.writeTlb, dif_neg (by omega)]

theorem writeTlb_eq (s : State) (k : Nat) (e : TlbEntry) : s.writeTlb k e = { s with tlb := (s.writeTlb k e).tlb } := by
  unfold State.writeTlb
  split <;> rfl

theorem writeTlb_getElem (s : State) {k : Nat} (e : TlbEntry) (h : k < 48) (q : Fin 48) :
    (s.writeTlb k e).tlb[q.val] = if q.val = k then e else s.tlb[q.val] := by
  rw [State.writeTlb, dif_pos h]
  simp only [Vector.getElem_set, eq_comm (a := k)]

@[simp] theorem writeTlb_cp0Usable (s : State) (k : Nat) (e : TlbEntry) :
    (s.writeTlb k e).cp0Usable = s.cp0Usable := by
  rw [writeTlb_eq]
  rfl

/-! ## The probe (R450, U12) -/

theorem legalMask_iff (m : BitVec 12) : legalMask m = true ↔ ∃ n : Nat, n ≤ 6 ∧ m.toNat = 4 ^ n - 1 := by
  constructor
  · intro h
    obtain ⟨n, hn, rfl⟩ := legalMask_size m h
    exact ⟨n, hn, by interval_cases n <;> rfl⟩
  · rintro ⟨n, hn, hm⟩
    obtain rfl : m = BitVec.ofNat 12 (4 ^ n - 1) := by rw [← hm, BitVec.ofNat_toNat, BitVec.setWidth_eq]
    interval_cases n <;> rfl

/-- The scan stops at an entry it does not pass over, the first of its list, or passes over all. -/
theorem probeScan_cases (s : State) (va : DWord) (l : List (Fin 48)) :
    (s.probeScan va l = some 0x80000000#32 ∧ ∀ i ∈ l, s.passes va i) ∨
      ∃ before i after, l = before ++ i :: after ∧ (∀ j ∈ before, s.passes va j) ∧ ¬s.passes va i ∧
        s.probeScan va l = if legalMask s.tlb[i.val].mask then some (BitVec.ofNat 32 i.val) else none := by
  obtain h | ⟨before, i, after, hlist, hbefore, ⟨hl, hs⟩ | ⟨hl, hm, hs⟩⟩ := probeScan_spec s va l
  · exact .inl h
  · exact .inr ⟨before, i, after, hlist, hbefore, by simp [State.passes, hl], by simp [hl, hs]⟩
  · exact .inr ⟨before, i, after, hlist, hbefore, by simp [State.passes, hm], by simp [hl, hs]⟩

/-- The probe answers for the lowest entry it does not pass over. -/
theorem probeScan_lowest (s : State) (va : DWord) (q : Fin 48) (hpass : ∀ p, p < q → s.passes va p)
    (hstop : ¬s.passes va q) : s.probeScan va (List.finRange 48) =
      if legalMask s.tlb[q.val].mask then some (BitVec.ofNat 32 q.val) else none := by
  obtain ⟨-, hall⟩ | ⟨before, i, after, hlist, hbefore, hi, hs⟩ := probeScan_cases s va (List.finRange 48)
  · exact absurd (hall q (List.mem_finRange q)) hstop
  · have hsorted : (before ++ i :: after).Pairwise (· < ·) := hlist ▸ List.pairwise_lt_finRange 48
    have hq : q ∈ before ++ i :: after := hlist ▸ List.mem_finRange q
    obtain hq | hq := List.mem_append.1 hq
    · exact absurd (hbefore q hq) hstop
    · obtain rfl | hq := List.mem_cons.1 hq
      · exact hs
      · have hlt : i < q := List.rel_of_pairwise_cons (List.pairwise_append.1 hsorted).2.1 hq
        exact absurd (hpass i hlt) hi

/-- The probe that passes over every entry answers P. -/
theorem probeScan_none (s : State) (va : DWord) (h : ∀ p, s.passes va p) :
    s.probeScan va (List.finRange 48) = some 0x80000000#32 := by
  obtain ⟨hs, -⟩ | ⟨-, i, -, -, -, hi, -⟩ := probeScan_cases s va (List.finRange 48)
  · exact hs
  · exact absurd (h i) hi

/-! ## The instructions (R447 to R450) -/

section usable
variable {s : State} (h : s.cp0Usable = true)
include h

theorem exec_tlbwi : exec .tlbwi s = .next (s.writeTlb s.indexField s.entryFromRegs) := guardCp0_ok s _ h

theorem exec_tlbwr : exec .tlbwr s = .next (s.writeTlb s.randomValue s.entryFromRegs) := guardCp0_ok s _ h

theorem exec_tlbr_of_eq (q : Fin 48) (hq : s.indexField = q.val) :
    exec .tlbr s = .next { s with cp0 := s.cp0.loadEntry s.tlb[q.val] } := by
  refine (guardCp0_ok s _ h).trans ?_
  rw [dif_pos (by omega)]
  simp only [hq]

theorem exec_tlbr_of_ge (hi : 48 ≤ s.indexField) : exec .tlbr s = .next s :=
  (guardCp0_ok s _ h).trans (by rw [dif_neg (by omega)])

theorem exec_tlbp_some {v : Word} (hv : s.probeScan s.cp0.entryHi (List.finRange 48) = some v) :
    exec .tlbp s = .next { s with cp0 := { s.cp0 with index := v } } :=
  (guardCp0_ok s _ h).trans (by rw [hv])

theorem exec_tlbp_none (hv : s.probeScan s.cp0.entryHi (List.finRange 48) = none) :
    exec .tlbp s = .refused .undefinedPageMask :=
  (guardCp0_ok s _ h).trans (by rw [hv])

end usable

/-- Settles O47: the entry written and the registers read are the same numbers, moved; the probe answers for the lowest
entry it does not pass over. -/
theorem tlbInstructions : Obligations.TlbInstructions := by
  intro s hcp c i w lo e wrote legal hit passed probed reg
  have hentry : s.entryFromRegs = e := by
    rw [entryFromRegs_eq, loFromReg_eq, loFromReg_eq]
  have hwrote {k : Nat} (hk : k < 48) : wrote (.next (s.writeTlb k s.entryFromRegs)) k := by
    rw [hentry]
    exact ⟨_, rfl, writeTlb_eq s k e, fun _ => by rw [writeTlb_mem], writeTlb_getElem s e hk⟩
  have hpasses (q : Fin 48) : s.passes c.entryHi q ↔ legal q ∧ hit q = false := and_congr_left' (legalMask_iff _)
  have hlowest (q : Fin 48) (hq : passed q) (hstop : ¬(legal q ∧ hit q = false)) :=
    probeScan_lowest s c.entryHi q (fun p hp => (hpasses p).2 (hq p hp)) (mt (hpasses q).1 hstop)
  have hindex : s.indexField = i := indexField_eq s
  have hwired : s.wiredField = w := wiredField_eq s
  rw [← hindex, ← hwired]
  refine ⟨fun hi => ⟨?_, exec_tlbr_of_ge hcp hi⟩, fun hi => exec_tlbwi hcp ▸ hwrote hi,
    ⟨s.randomValue, randomValue_lt s, fun hw => (randomValue_of_wired_lt hw).1, randomValue_of_wired_ge,
      exec_tlbwr hcp ▸ hwrote (randomValue_lt s)⟩,
    fun q hq => ?_, fun q hq hl => ?_, fun q hq hl hm => ?_, fun hall => ?_⟩
  · rw [exec_tlbwi hcp, writeTlb_of_ge _ _ hi]
  · exact ⟨_, exec_tlbr_of_eq hcp q hq.symm, rfl, fun _ => rfl, loadEntry_pageMask_toNat _ _, hiFromEntry_toNat _,
      regFromLo_toNat _ _, regFromLo_toNat _ _⟩
  · refine exec_tlbp_none hcp ?_
    rw [hlowest q hq (fun hp => hl hp.1), if_neg (mt (legalMask_iff _).1 hl)]
  · refine ⟨_, exec_tlbp_some hcp ?_, rfl, fun _ => rfl⟩
    rw [hlowest q hq (by simp [hm]), if_pos ((legalMask_iff _).2 hl)]
  · exact ⟨_, exec_tlbp_some hcp (probeScan_none s _ fun p => (hpasses p).2 (hall p)), rfl, fun _ => rfl⟩

/-! ## The round trip (R451) -/

theorem and_eq_of_and_not_eq_zero {w : Nat} {v m : BitVec w} (h : v &&& ~~~m = 0#w) : v &&& m = v := by
  refine BitVec.eq_of_getLsbD_eq fun j hj => ?_
  have hbit : (v &&& ~~~m).getLsbD j = false := by rw [h, BitVec.getLsbD_zero]
  rw [BitVec.getLsbD_and, BitVec.getLsbD_not, decide_eq_true hj] at hbit
  rw [BitVec.getLsbD_and]
  grind

/-- The TLB registers with their reserved bits clear are their parts under the write masks. -/
theorem reservedOk_tlbRegs {p : Params} {c : Cp0} (h : c.reservedOk p = true) :
    c.pageMask &&& 0x01FFE000#32 = c.pageMask ∧ c.entryHi &&& 0xC00000FFFFFFE0FF#64 = c.entryHi ∧
      c.entryLo0 &&& 0x3FFFFFFF#64 = c.entryLo0 ∧ c.entryLo1 &&& 0x3FFFFFFF#64 = c.entryLo1 := by
  simp only [Cp0.reservedOk, Bool.and_eq_true, decide_eq_true_eq, and_assoc] at h
  obtain ⟨-, hlo0, hlo1, -, hmask, -, hhi, -⟩ := h
  exact ⟨and_eq_of_and_not_eq_zero hmask, and_eq_of_and_not_eq_zero hhi, and_eq_of_and_not_eq_zero hlo0,
    and_eq_of_and_not_eq_zero hlo1⟩

theorem loadEntry_entryFromRegs_pageMask (c : Cp0) (s : State) :
    (c.loadEntry s.entryFromRegs).pageMask = s.cp0.pageMask &&& 0x01FFE000#32 := by
  refine BitVec.eq_of_getLsbD_eq fun j hj => ?_
  have hmask : (0x01FFE000#32).getLsbD j = (decide (13 ≤ j) && decide (j - 13 < 12)) := wordMask_getLsbD 13 12 j hj
  change ((s.cp0.pageMask.extractLsb' 13 12).setWidth 32 <<< 13).getLsbD j = _
  rw [BitVec.getLsbD_and, hmask, BitVec.getLsbD_shiftLeft, BitVec.getLsbD_setWidth, BitVec.getLsbD_extractLsb']
  grind

theorem hiFromEntry_entryFromRegs (s : State) :
    hiFromEntry s.entryFromRegs = s.cp0.entryHi &&& 0xC00000FFFFFFE0FF#64 := by
  refine BitVec.eq_of_getLsbD_eq fun j hj => ?_
  have hmask : ∀ j < 64, (0xC00000FFFFFFE0FF#64).getLsbD j = decide (j < 8 ∨ 13 ≤ j ∧ j < 40 ∨ 62 ≤ j) := by decide
  rw [BitVec.getLsbD_and, hmask j hj]
  simp only [hiFromEntry, State.entryFromRegs, BitVec.getLsbD_append, BitVec.getLsbD_extractLsb', BitVec.getLsbD_zero]
  grind

/-- A descriptor made a register again: the writable bits of the register, but bit 0, which is G. -/
theorem regFromLo_loFromReg (v : DWord) (g : Bool) (j : Nat) :
    (regFromLo (loFromReg v) g).getLsbD j = if j = 0 then g else (v &&& 0x3FFFFFFF#64).getLsbD j := by
  have hmask : (0x3FFFFFFF#64).getLsbD j = (decide (j < 64) && decide (j < 30)) := by
    rw [show 0x3FFFFFFF#64 = BitVec.ofNat 64 (2 ^ 30 - 1) from rfl, BitVec.getLsbD_ofNat, Nat.testBit_two_pow_sub_one]
  simp only [regFromLo, loFromReg, BitVec.getLsbD_setWidth, BitVec.getLsbD_append, BitVec.getLsbD_extractLsb',
    BitVec.getLsbD_ofBool, BitVec.getLsbD_and, hmask]
  grind

/-- TLBWI then TLBR leaves the registers as the entry made from them. -/
theorem tlbwi_tlbr_cp0 {s t u : State} (hcp : s.cp0Usable = true) (hi : s.indexField < 48)
    (ht : exec .tlbwi s = .next t) (hu : exec .tlbr t = .next u) : u.cp0 = s.cp0.loadEntry s.entryFromRegs := by
  obtain rfl : s.writeTlb s.indexField s.entryFromRegs = t := Host.Outcome.next.inj ((exec_tlbwi hcp).symm.trans ht)
  have hindex : (s.writeTlb s.indexField s.entryFromRegs).indexField = s.indexField := by simp [State.indexField]
  have hr := exec_tlbr_of_eq ((writeTlb_cp0Usable ..).trans hcp) ⟨s.indexField, hi⟩ hindex
  obtain rfl := Host.Outcome.next.inj (hr.symm.trans hu)
  rw [writeTlb_getElem s _ hi, if_pos rfl, writeTlb_cp0]

/-- Settles O48: the registers come back as their parts under the write masks, which they are, but bit 0 of both
EntryLo, which is the entry's G; and TLBR and TLBP keep the array. -/
theorem tlbRoundTrip : Obligations.TlbRoundTrip := by
  refine ⟨fun s t u hres hcp hi ht hu => ?_, fun s t h => ?_⟩
  · rw [← indexField_eq] at hi
    obtain ⟨hmask, hhi, hlo0, hlo1⟩ := reservedOk_tlbRegs hres
    rw [tlbwi_tlbr_cp0 hcp hi ht hu]
    refine ⟨(loadEntry_entryFromRegs_pageMask _ s).trans hmask, (hiFromEntry_entryFromRegs s).trans hhi,
      fun j hj => ⟨?_, ?_⟩, regFromLo_loFromReg _ _ 0, regFromLo_loFromReg _ _ 0⟩
    · rw [← hlo0]
      exact (regFromLo_loFromReg _ _ j).trans (if_neg hj.ne')
    · rw [← hlo1]
      exact (regFromLo_loFromReg _ _ j).trans (if_neg hj.ne')
  · obtain h | h := h
    · exact KeepsTlb.execTlbr s t h
    · exact KeepsTlb.execTlbp s t h

end Sys2Proof.Machine
end

section
/-! PROOFS. Exceptions, the timer, interrupts, ERET and reset: the bits each field of Status, Cause and FCR31 takes, and
what is saved, changed and left alone (R482, R620 to R623, R640 to R642, R690, R692). -/

namespace Sys2Proof.Machine

/-! ## Fields of a word, bit by bit -/

/-- Two patterns meet in some bit exactly when their conjunction is not zero. -/
theorem and_ne_zero_iff {w : Nat} (x y : BitVec w) :
    x &&& y ≠ 0#w ↔ ∃ j, j < w ∧ x.getLsbD j = true ∧ y.getLsbD j = true := by
  constructor
  · intro h
    by_contra! hno
    refine h (BitVec.eq_of_getLsbD_eq fun j hj => ?_)
    rw [BitVec.getLsbD_and, BitVec.getLsbD_zero, Bool.and_eq_false_iff]
    by_cases hx : x.getLsbD j = true
    · exact .inr (Bool.not_eq_true _ ▸ hno j hj hx)
    · exact .inl (Bool.not_eq_true _ ▸ hx)
  · rintro ⟨j, -, hx, hy⟩ h
    have hbit := congrArg (·.getLsbD j) h
    simp [hx, hy] at hbit

/-- A field of `len` bits moved up to `lo`, bit by bit. -/
theorem fieldAt_getLsbD {len : Nat} (f : BitVec len) (lo j : Nat) (hj : j < 32) :
    (f.setWidth 32 <<< lo : Word).getLsbD j = (decide (lo ≤ j) && f.getLsbD (j - lo)) := by
  rw [BitVec.getLsbD_shiftLeft, BitVec.getLsbD_setWidth, decide_eq_true hj, decide_eq_true (show j - lo < 32 by omega)]
  by_cases hlo : lo ≤ j
  · simp [hlo]
  · simp [hlo, show j < lo by omega]

/-- The exception level set, every other bit of Status as it was (R621). -/
theorem or_exlMask_hasBits (w : Word) : HasBits (w ||| exlMask) fun j => if j = 1 then true else w.getLsbD j := by
  have hmask : ∀ j < 32, exlMask.getLsbD j = decide (j = 1) := by decide
  intro j hj
  rw [BitVec.getLsbD_or, hmask j hj]
  by_cases h : j = 1 <;> simp [h]

/-- The exception level cleared (R623). -/
theorem and_not_exlMask_hasBits (w : Word) :
    HasBits (w &&& ~~~exlMask) fun j => if j = 1 then false else w.getLsbD j := by
  have hmask : ∀ j < 32, (~~~exlMask).getLsbD j = !decide (j = 1) := by decide
  intro j hj
  rw [BitVec.getLsbD_and, hmask j hj]
  by_cases h : j = 1 <;> simp [h]

/-- The error level cleared (R623). -/
theorem and_not_erlMask_hasBits (w : Word) :
    HasBits (w &&& ~~~erlMask) fun j => if j = 2 then false else w.getLsbD j := by
  have hmask : ∀ j < 32, (~~~erlMask).getLsbD j = !decide (j = 2) := by decide
  intro j hj
  rw [BitVec.getLsbD_and, hmask j hj]
  by_cases h : j = 2 <;> simp [h]

/-- Cause with its code and coprocessor number written: the other bits as they were (R53, R621). -/
theorem causeWithCode_hasBits (w : Word) (code : BitVec 5) (ce : BitVec 2) :
    HasBits (causeWithCode w code ce) fun j =>
      if 2 ≤ j ∧ j ≤ 6 then code.getLsbD (j - 2)
      else if 28 ≤ j ∧ j ≤ 29 then ce.getLsbD (j - 28) else w.getLsbD j := by
  have hmask : ∀ j < 32, (~~~0x3000007C#32).getLsbD j = !decide ((2 ≤ j ∧ j ≤ 6) ∨ (28 ≤ j ∧ j ≤ 29)) := by decide
  intro j hj
  rw [causeWithCode, BitVec.getLsbD_or, BitVec.getLsbD_or, BitVec.getLsbD_and, hmask j hj, fieldAt_getLsbD _ _ _ hj,
    fieldAt_getLsbD _ _ _ hj]
  grind

/-- Cause with BD written: the other bits as they were (R53, R621). -/
theorem causeWithBd_hasBits (w : Word) (bd : Bool) :
    HasBits (causeWithBd w bd) fun j => if j = 31 then bd else w.getLsbD j := by
  have hmask : ∀ j < 32, (~~~0x80000000#32).getLsbD j = !decide (j = 31) := by decide
  have hbd : ∀ bd : Bool, ∀ j < 32, (if bd then 0x80000000#32 else 0#32).getLsbD j = (bd && decide (j = 31)) := by
    decide
  intro j hj
  rw [causeWithBd, BitVec.getLsbD_or, BitVec.getLsbD_and, hmask j hj, hbd bd j hj]
  by_cases h : j = 31 <;> simp [h]

/-! ## Taking an exception (R621) -/

section entry
variable (c : ExcCode) (ce : BitVec 2) (o : DWord) (s : State)

/-- An exception writes Cause, EPC and Status, the pc and the sequencer, and nothing else. -/
theorem takeException_eq : takeException c ce o s =
    { s with
      cp0 :=
        { s.cp0 with
          cause := (takeException c ce o s).cp0.cause
          epc := (takeException c ce o s).cp0.epc
          status := (takeException c ce o s).cp0.status }
      pc := s.vectorBase + o
      bstate := .exception } := by
  rw [← takeException_cp0 s c ce o]
  rfl

/-- The code, the coprocessor number and, at the first level, BD: the other bits of Cause as they were. -/
theorem takeException_cause_hasBits :
    HasBits (takeException c ce o s).cp0.cause fun j =>
      if j = 31 then (takeException c ce o s).cp0.cause.getLsbD 31
      else if 2 ≤ j ∧ j ≤ 6 then (excNumber c).getLsbD (j - 2)
      else if 28 ≤ j ∧ j ≤ 29 then ce.getLsbD (j - 28) else s.cp0.cause.getLsbD j := by
  intro j hj
  by_cases h31 : j = 31
  · simp [h31]
  · have hcode := causeWithCode_hasBits s.cp0.cause (excNumber c) ce j hj
    cases he : s.exl with
    | false =>
      rw [takeException_first s c ce o he]
      simpa [h31] using (causeWithBd_hasBits _ _ j hj).trans ((if_neg h31).trans hcode)
    | true =>
      rw [takeException_nested s c ce o he]
      simpa [h31] using hcode

theorem takeException_first_bd (h : s.exl = false) :
    (takeException c ce o s).cp0.cause.getLsbD 31 = decide (s.bstate = .delay) := by
  rw [takeException_first s c ce o h]
  exact causeWithBd_hasBits _ _ 31 (by decide)

theorem takeException_nested_bd (h : s.exl = true) :
    (takeException c ce o s).cp0.cause.getLsbD 31 = s.cp0.cause.getLsbD 31 := by
  rw [takeException_nested s c ce o h]
  exact causeWithCode_hasBits _ _ _ 31 (by decide)

theorem takeException_first_epc (h : s.exl = false) :
    (takeException c ce o s).cp0.epc = if s.bstate = .delay then s.pc - 4#64 else s.pc := by
  rw [takeException_first s c ce o h]

theorem takeException_first_status (h : s.exl = false) :
    (takeException c ce o s).cp0.status = s.cp0.status ||| exlMask := by
  rw [takeException_first s c ce o h]

/-- The code field of Cause reads as the number of the exception. -/
theorem takeException_code : (takeException c ce o s).cp0.cause.extractLsb' 2 5 = excNumber c := by
  refine BitVec.eq_of_getLsbD_eq fun i hi => ?_
  rw [BitVec.getLsbD_extractLsb', decide_eq_true hi, Bool.true_and,
    takeException_cause_hasBits c ce o s (2 + i) (by omega)]
  beta_reduce
  rw [if_neg (by omega), if_pos (by omega), Nat.add_sub_cancel_left]

end entry

/-- Settles O14: the frame, then Cause bit by bit, and the two levels apart. -/
theorem exceptionEntry : Obligations.ExceptionEntry := by
  refine ⟨fun c ce o s => ⟨takeException_eq c ce o s, fun h => ?_, fun h => ?_, takeException_cause_hasBits c ce o s⟩,
    by decide⟩
  · refine ⟨takeException_first_epc c ce o s h, takeException_first_bd c ce o s h, ?_⟩
    rw [takeException_first_status c ce o s h]
    exact or_exlMask_hasBits _
  · have hn := takeException_nested s c ce o h
    exact ⟨by rw [hn], by rw [hn], takeException_nested_bd c ce o s h⟩

/-! ## Vectors and codes (R113, R130, R622) -/

@[simp] theorem tlbRegisters_exl (s : State) (va : DWord) : (s.tlbRegisters va).exl = s.exl := rfl

@[simp] theorem tlbRegisters_vectorBase (s : State) (va : DWord) : (s.tlbRegisters va).vectorBase = s.vectorBase := rfl

theorem raiseTlb_pc (s : State) (m : TlbMiss) (k : AccessKind) (va : DWord) :
    (s.raiseTlb m k va).pc = s.vectorBase + s.tlbOffset m := rfl

theorem excNumber_tlbCode (m : TlbMiss) (k : AccessKind) :
    excNumber (tlbCode m k) = if m = .modify then 1#5 else if k = .store then 3#5 else 2#5 := by
  cases m <;> cases k <;> rfl

/-- Settles O15: each vector is the base and an offset, and the code of a TLB exception is read from its table. -/
theorem exceptionVectors : Obligations.ExceptionVectors := by
  intro s va k c m
  exact ⟨rfl, rfl, raiseTlb_pc s .refill k va, raiseTlb_pc s .invalid k va, raiseTlb_pc s .modify k va,
    (takeException_code ..).trans (excNumber_tlbCode m k), rfl⟩

/-! ## ERET (R623) -/

theorem returnFromException_of_erl (s : State) (h : s.erl = true) : returnFromException s =
    { s with
      pc := s.cp0.errorEpc
      cp0 := { s.cp0 with status := s.cp0.status &&& ~~~erlMask }
      bstate := .exception
      llbit := false } := if_pos h

theorem returnFromException_of_not_erl (s : State) (h : s.erl = false) : returnFromException s =
    { s with
      pc := s.cp0.epc
      cp0 := { s.cp0 with status := s.cp0.status &&& ~~~exlMask }
      bstate := .exception
      llbit := false } := if_neg (by simp [h])

/-- Settles O19: the two levels apart, the bit cleared read in each. -/
theorem eretReturns : Obligations.EretReturns := by
  intro s hu
  refine ⟨returnFromException s, guardCp0_ok s _ hu, ?_⟩
  cases h : s.erl with
  | true =>
    rw [returnFromException_of_erl s h, show s.cp0.status.getLsbD 2 = true from h]
    exact ⟨rfl, and_not_erlMask_hasBits _⟩
  | false =>
    rw [returnFromException_of_not_erl s h, show s.cp0.status.getLsbD 2 = false from h]
    exact ⟨rfl, and_not_exlMask_hasBits _⟩

/-! ## The timer (R642) -/

theorem timerHit_iff (s : State) (c : Nat) : s.timerHit c = true ↔
    s.countZero < c ∧ (c - s.countZero) % 2 = 0 ∧
      (s.countBase.toNat + (c - s.countZero) / 2) % 2 ^ 32 = s.cp0.compare.toNat := by
  rw [State.timerHit, Bool.and_eq_true, Bool.and_eq_true, decide_eq_true_eq, decide_eq_true_eq, decide_eq_true_eq,
    and_assoc, State.countAt, ← BitVec.toNat_inj, BitVec.toNat_add, BitVec.toNat_ofNat, Nat.add_mod_mod]
  rfl

/-- Settles O18: the cycles the update looks at are those after the last one and not after now. -/
theorem timerRequest : Obligations.TimerRequest := by
  refine fun s => ⟨rfl, ?_⟩
  have hany : (List.range (s.cycles - s.timerSeen)).any (fun k => s.timerHit (s.timerSeen + 1 + k)) = true ↔
      ∃ c, s.timerSeen < c ∧ c ≤ s.cycles ∧ s.timerHit c = true := by
    rw [List.any_eq_true]
    constructor
    · rintro ⟨k, hk, hhit⟩
      have := List.mem_range.1 hk
      exact ⟨_, by omega, by omega, hhit⟩
    · rintro ⟨c, hlow, hhigh, hhit⟩
      refine ⟨c - s.timerSeen - 1, List.mem_range.2 (by omega), ?_⟩
      rwa [show s.timerSeen + 1 + (c - s.timerSeen - 1) = c by omega]
  rw [updateTimer, Bool.or_eq_true, hany]
  simp only [timerHit_iff]

/-! ## Interrupts (R640, R641) -/

/-- The condition of an interrupt, bit by bit. -/
theorem interruptTaken_iff (s : State) : s.interruptTaken = true ↔
    s.cp0.status.getLsbD 0 = true ∧ s.cp0.status.getLsbD 1 = false ∧ s.cp0.status.getLsbD 2 = false ∧
      ∃ j, j < 8 ∧ s.causeIp.getLsbD j = true ∧ s.cp0.status.getLsbD (8 + j) = true := by
  have him : ∀ j, j < 8 → s.im.getLsbD j = s.cp0.status.getLsbD (8 + j) := fun j hj => by
    rw [State.im, BitVec.getLsbD_extractLsb', decide_eq_true hj, Bool.true_and]
  rw [State.interruptTaken, Bool.and_eq_true, Bool.and_eq_true, Bool.and_eq_true, decide_eq_true_eq, and_ne_zero_iff,
    Bool.not_eq_true', Bool.not_eq_true', and_assoc, and_assoc]
  refine and_congr_right fun _ => and_congr_right fun _ => and_congr_right fun _ => exists_congr fun j => ?_
  exact and_congr_right fun hj => by rw [him j hj]

/-- The vector an interrupt goes to, as an address (R622). -/
theorem vectorBase_general (s : State) : s.vectorBase + generalOffset =
    if s.cp0.status.getLsbD 22 then 0xFFFFFFFFBFC00380#64 else 0xFFFFFFFF80000180#64 := by
  unfold State.vectorBase State.bev
  cases s.cp0.status.getLsbD 22 <;> rfl

/-- The advance after an exception stays at the vector (R221). -/
theorem advance_raise (s : State) (c : ExcCode) : advance (s.raise c) = { s.raise c with bstate := .none } :=
  advance_of_exception rfl

theorem step_of_interrupt (s : State) (h : (beginStep s).interruptTaken = true) :
    step s = .next (endStep none ((beginStep s).raise .int)) := by
  simp [step, stepWith, h]

/-- Settles O6: the condition bit by bit; the step is then the entry of the exception and the advance, which stays at
the vector. -/
theorem interruptTakenAtBoundary : Obligations.InterruptTakenAtBoundary := by
  intro s b line
  have hline : ∀ j, j < 8 → b.causeIp.getLsbD j = line j := fun j hj => causeIp_getLsbD b j hj
  constructor
  · rw [interruptTaken_iff]
    refine and_congr_right fun _ => and_congr_right fun _ => and_congr_right fun _ => exists_congr fun j => ?_
    exact and_congr_right fun hj => by rw [hline j hj]
  · intro h
    have hexl : b.exl = false := ((interruptTaken_iff b).1 h).2.1
    refine ⟨_, step_of_interrupt s h, ?_⟩
    rw [endStep, advance_raise]
    exact ⟨takeException_first_epc .int 0#2 generalOffset b hexl,
      takeException_first_status .int 0#2 generalOffset b hexl, takeException_code .int 0#2 generalOffset b,
      takeException_first_bd .int 0#2 generalOffset b hexl, vectorBase_general b, rfl, rfl, rfl, rfl, rfl⟩

/-! ## Reset (R690, R692) -/

/-- Settles O9: each property is read off the reset state. -/
theorem resetMeetsInvariant : Obligations.ResetMeetsInvariant where
  memWf := rfl
  memInSpace := rfl
  zeroReg := rfl
  boundary := rfl
  fcr31Reserved := rfl
  cp0Reserved := by decide
  lineAligned := rfl
  timeBase := le_rfl
  timerUpdate := le_rfl

/-- Settles O10: the values at construction are read off the state, those of a later reset off the update. -/
theorem resetValues : Obligations.ResetValues := by
  refine ⟨⟨rfl, rfl, rfl, rfl, rfl, rfl, rfl, by decide, by decide⟩, fun s => ?_⟩
  exact ⟨rfl, rfl, rfl, rfl, rfl, applyReset_x_zero s, rfl, rfl, rfl, rfl, rfl, rfl, rfl, rfl, rfl⟩

end Sys2Proof.Machine
end

section
/-! PROOFS. Isolation outside kernel mode (R440, R621, R650, R651): every template keeps the system state or takes an
exception, and the instructions of coprocessor 0 are not usable. -/

namespace Sys2Proof.Machine

/-! ## The system state kept -/

/-- The TLB, Count, the timer request and the parameters: the system state outside coprocessor 0. -/
def State.system (s : State) : Vector TlbEntry 48 × Word × Nat × Bool × Params :=
  (s.tlb, s.countBase, s.countZero, s.timerPending, s.params)

/-- The system state and every register of coprocessor 0 are as they were. -/
def SystemKept (s t : State) : Prop := t.system = s.system ∧ t.cp0 = s.cp0

/-- Some exception was taken: only EXL is set in Status, and the pc is at one of the three vectors. -/
def TookException (s t : State) : Prop :=
  t.bstate = .exception ∧ t.cp0.status = (s.cp0.status ||| 2#32) ∧ t.kernelMode = true ∧
    ∃ o, (o = 0x000#64 ∨ o = 0x080#64 ∨ o = 0x180#64) ∧
      t.pc = (if s.bev then 0xFFFFFFFFBFC00200#64 else 0xFFFFFFFF80000000#64) + o

/-- What an instruction outside kernel mode with CU0 = 0 does to the system state. -/
def Isolated (s t : State) : Prop :=
  t.system = s.system ∧ (t.cp0 = { s.cp0 with llAddr := t.cp0.llAddr } ∨ TookException s t)

theorem SystemKept.trans {s t u : State} (h : SystemKept s t) (h' : SystemKept t u) : SystemKept s u :=
  ⟨h'.1.trans h.1, h'.2.trans h.2⟩

theorem SystemKept.setX (s : State) (r : Reg) (v : DWord) : SystemKept s (s.setX r v) := by
  simp [SystemKept, State.system]

theorem SystemKept.writeF32 (s : State) (n : FReg) (v : Word) : SystemKept s (s.writeF32 n v) := by
  simp [SystemKept, State.system]

theorem SystemKept.branchIf (s : State) (c : Bool) (a : DWord) : SystemKept s (s.branchIf c a) := by
  simp [SystemKept, State.system]

theorem SystemKept.branchLikely (s : State) (c : Bool) (a : DWord) : SystemKept s (s.branchLikely c a) := by
  simp [SystemKept, State.system]

theorem Isolated.of_kept {s t : State} (h : SystemKept s t) : Isolated s t := ⟨h.1, .inl (by rw [h.2])⟩

/-- A load-linked writes LLAddr and no other register of coprocessor 0 (R383). -/
theorem Isolated.installObserver (s : State) (r : Reg) (v : DWord) (pa : PAddr) :
    Isolated s ((s.setX r v).installObserver pa) :=
  ⟨(SystemKept.setX s r v).1, .inl (by simp [State.installObserver])⟩

/-! ## Exceptions (R621, R650) -/

/-- Taking an exception enters kernel mode, for EXL is set after it. -/
theorem takeException_kernelMode (c : ExcCode) (ce : BitVec 2) (o : DWord) (s : State) :
    (takeException c ce o s).kernelMode = true := by
  have hexl : (takeException c ce o s).exl = true := by
    cases h : s.exl with
    | false =>
      rw [takeException_first s c ce o h]
      exact or_exlMask_hasBits _ 1 (by decide)
    | true =>
      rw [takeException_nested s c ce o h]
      exact h
  simp [State.kernelMode, hexl]

/-- Outside kernel mode EXL is clear (R650). -/
theorem exl_of_not_kernelMode {s : State} (h : s.kernelMode = false) : s.exl = false := by
  rw [State.kernelMode, Bool.or_eq_false_iff, Bool.or_eq_false_iff] at h
  exact h.1.2

/-- An exception taken where Status and the system state are still those of `s`. -/
theorem Isolated.takeException {s u : State} (hmode : s.kernelMode = false) (hf : u.system = s.system)
    (hs : u.cp0.status = s.cp0.status) (c : ExcCode) (ce : BitVec 2) (o : DWord)
    (ho : o = 0x000#64 ∨ o = 0x080#64 ∨ o = 0x180#64) : Isolated s (takeException c ce o u) := by
  have hexl : u.exl = false := (congrArg (·.getLsbD 1) hs).trans (exl_of_not_kernelMode hmode)
  refine ⟨hf, .inr ⟨rfl, ?_, takeException_kernelMode c ce o u, o, ho, ?_⟩⟩
  · rw [takeException_first_status c ce o u hexl, hs]
    rfl
  · rw [State.bev, ← hs]
    rfl

theorem tlbOffset_cases (s : State) (m : TlbMiss) :
    s.tlbOffset m = 0x000#64 ∨ s.tlbOffset m = 0x080#64 ∨ s.tlbOffset m = 0x180#64 := by
  unfold State.tlbOffset generalOffset
  split
  · split
    · exact .inr (.inr rfl)
    · split
      · exact .inr (.inl rfl)
      · exact .inl rfl
  · exact .inr (.inr rfl)

/-- Every exception an instruction raises isolates, from a state that kept the system state of `s`. -/
theorem Isolated.of_raised {s u t : State} (hmode : s.kernelMode = false) (hk : SystemKept s u) (h : Raised u t) :
    Isolated s t := by
  have hs : u.cp0.status = s.cp0.status := congrArg Cp0.status hk.2
  cases h with
  | exception c => exact .takeException hmode hk.1 hs _ _ _ (.inr (.inr rfl))
  | unusable n => exact .takeException hmode hk.1 hs _ _ _ (.inr (.inr rfl))
  | addressError k va =>
    exact Isolated.takeException (u := { u with cp0 := { u.cp0 with badVAddr := va } }) hmode hk.1 hs _ 0#2 0x180#64
      (.inr (.inr rfl))
  | tlb m k va =>
    exact Isolated.takeException (u := u.tlbRegisters va) hmode hk.1 hs _ 0#2 _ (tlbOffset_cases u m)

/-! ## The instructions -/

section instructions
variable {s : State} (hmode : s.kernelMode = false)
include hmode

/-- A store conditional consumes the observer first, which is no system state (R385). -/
theorem storeConditional_isolated (rt : Reg) (va : DWord) (n : Nat) :
    Ends (Isolated s) (storeConditional s rt va n) := by
  unfold storeConditional
  split
  · exact .storeThen (fun _ => .of_raised hmode ⟨rfl, rfl⟩) fun _ => .next (.of_kept (.setX _ _ _))
  · exact .next (.of_kept (.setX _ _ _))

/-- The exception of a floating-point instruction, FCR31 written before it. -/
theorem fpe_isolated (w : Word) : Isolated s (State.raise { s with fcr31 := w } .fpe) :=
  .of_raised (u := { s with fcr31 := w }) hmode ⟨rfl, rfl⟩ (.exception .fpe)

theorem writeFcr_isolated (n : CReg) (v : Word) : Isolated s (s.writeFcr n v) := by
  unfold State.writeFcr
  split
  · dsimp only
    split
    · exact fpe_isolated hmode _
    · exact .of_kept ⟨rfl, rfl⟩
  · exact .of_kept ⟨rfl, rfl⟩

section finish
variable {fl : FpFlags}

theorem fpFinishS_isolated {fd : FReg} {b : Nat} : Ends (Isolated s) (fpFinish s fl (commitS fd b)) :=
  .fpFinish (fpe_isolated hmode) fun _ => .next (.of_kept (.writeF32 _ _ _))

theorem fpFinishD_isolated {fd : FReg} {b : Nat} : Ends (Isolated s) (fpFinish s fl (commitD fd b)) :=
  .fpFinish (fpe_isolated hmode) fun _ => .commitF64 fun _ => .of_kept ⟨rfl, rfl⟩

theorem fpFinishC_isolated {c : Bool} : Ends (Isolated s) (fpFinish s fl (commitC c)) :=
  .fpFinish (fpe_isolated hmode) fun _ => .next (.of_kept ⟨rfl, rfl⟩)

end finish

/-- Every instruction isolates outside kernel mode with CU0 = 0. -/
theorem exec_isolated (hcu : s.cu0 = false) (i : Instr) : Ends (Isolated s) (exec i s) := by
  have hx : ∀ t, Raised s t → Isolated s t := fun _ => .of_raised hmode ⟨rfl, rfl⟩
  have raised (c : ExcCode) : Isolated s (s.raise c) := hx _ (.exception c)
  have wrote (r : Reg) (v : DWord) : Isolated s (s.setX r v) := .of_kept (.setX s r v)
  have kept : Isolated s s := .of_kept ⟨rfl, rfl⟩
  have unusable (r : Result) : Ends (Isolated s) (guardCp0 s r) := by
    rw [guardCp0_cpu s r (by simp [State.cp0Usable, hmode, hcu])]
    exact .next (hx _ (.unusable 0#2))
  unfold exec
  cases i with
  | add | sub | addi => exact .ite (raised _) (wrote _ _)
  | dadd | dsub | daddi => exact .guardOps64 hx (.ite (raised _) (wrote _ _))
  | addu | subu | and | or | xor | nor | slt | sltu | addiu | slti | sltiu | andi | ori | xori | lui
  | sll | srl | sra | sllv | srlv | srav | mfhi | mflo => exact .next (wrote _ _)
  | daddu | dsubu | daddiu | dsll | dsrl | dsra | dsll32 | dsrl32 | dsra32 | dsllv | dsrlv | dsrav =>
    exact .guardOps64 hx (.next (wrote _ _))
  | mult | multu | mthi | mtlo | j | jr | sync => exact .next (.of_kept ⟨rfl, rfl⟩)
  | dmult | dmultu => exact .guardOps64 hx (.next (.of_kept ⟨rfl, rfl⟩))
  | div | divu => exact .ite kept (.of_kept ⟨rfl, rfl⟩)
  | ddiv | ddivu => exact .guardOps64 hx (.ite kept (.of_kept ⟨rfl, rfl⟩))
  | jal | jalr => exact .next (.of_kept (.setX s _ _))
  | beq | bne | blez | bgtz | bltz | bgez => exact .next (.of_kept (.branchIf s _ _))
  | beql | bnel | blezl | bgtzl | bltzl | bgezl => exact .next (.of_kept (.branchLikely s _ _))
  | bltzal | bgezal => exact .next (.of_kept ((SystemKept.setX s _ _).trans (.branchIf _ _ _)))
  | bltzall | bgezall => exact .next (.of_kept ((SystemKept.setX s _ _).trans (.branchLikely _ _ _)))
  | lb | lbu | lh | lhu | lw => exact .loadThen hx fun _ => .next (wrote _ _)
  | lwu | ld => exact .guardOps64 hx (.loadThen hx fun _ => .next (wrote _ _))
  | ll => exact .loadThen hx fun _ => .next (.installObserver s _ _ _)
  | lld => exact .guardOps64 hx (.loadThen hx fun _ => .next (.installObserver s _ _ _))
  | sb | sh | sw => exact .storeThen hx fun _ => .next (.of_kept ⟨rfl, rfl⟩)
  | sd => exact .guardOps64 hx (.storeThen hx fun _ => .next (.of_kept ⟨rfl, rfl⟩))
  | lwl | lwr => exact .partThen hx fun _ => .next (wrote _ _)
  | ldl | ldr => exact .guardOps64 hx (.partThen hx fun _ => .next (wrote _ _))
  | swl | swr => exact .partThen hx fun _ => .next (.of_kept ⟨rfl, rfl⟩)
  | sdl | sdr => exact .guardOps64 hx (.partThen hx fun _ => .next (.of_kept ⟨rfl, rfl⟩))
  | sc => exact storeConditional_isolated hmode _ _ _
  | scd => exact .guardOps64 hx (storeConditional_isolated hmode _ _ _)
  | tge | tgeu | tlt | tltu | teq | tne | tgei | tgeiu | tlti | tltiu | teqi | tnei => exact .trapIf hx kept
  | syscall | breakI => exact .next (raised _)
  | cache | mfc0 | dmfc0 | mtc0 | dmtc0 | tlbr | tlbwi | tlbwr | tlbp | eret => exact unusable _
  | cop2 | lwc2 | ldc2 | swc2 | sdc2 => exact .cop2Stub hx
  | mfc1 | cfc1 => exact .guardCp1 hx (.next (wrote _ _))
  | dmfc1 => exact .guardCp1 hx (.guardOps64 hx (.withF64 fun _ => .next (wrote _ _)))
  | mtc1 | absS | movS | negS => exact .guardCp1 hx (.next (.of_kept (.writeF32 s _ _)))
  | dmtc1 => exact .guardCp1 hx (.guardOps64 hx (.commitF64 fun _ => .of_kept ⟨rfl, rfl⟩))
  | ctc1 => exact .guardCp1 hx (.next (writeFcr_isolated hmode _ _))
  | bc1f | bc1t => exact .guardCp1 hx (.next (.of_kept (.branchIf s _ _)))
  | bc1fl | bc1tl => exact .guardCp1 hx (.next (.of_kept (.branchLikely s _ _)))
  | lwc1 => exact .guardCp1 hx (.loadThen hx fun _ => .next (.of_kept (.writeF32 s _ _)))
  | ldc1 => exact .guardCp1 hx (.loadThen hx fun _ => .commitF64 fun _ => .of_kept ⟨rfl, rfl⟩)
  | swc1 => exact .guardCp1 hx (.storeThen hx fun _ => .next (.of_kept ⟨rfl, rfl⟩))
  | sdc1 => exact .guardCp1 hx (.withF64 fun _ => .storeThen hx fun _ => .next (.of_kept ⟨rfl, rfl⟩))
  | absD | movD | negD => exact .guardCp1 hx (.withF64 fun _ => .commitF64 fun _ => .of_kept ⟨rfl, rfl⟩)
  | addS | subS | mulS | divS | sqrtS | roundWS | truncWS | ceilWS | floorWS | cvtSW | cvtWS =>
    exact .guardCp1 hx (fpFinishS_isolated hmode)
  | roundLS | truncLS | ceilLS | floorLS | cvtDS | cvtDW | cvtLS => exact .guardCp1 hx (fpFinishD_isolated hmode)
  | roundWD | truncWD | ceilWD | floorWD | cvtSD | cvtSL | cvtWD =>
    exact .guardCp1 hx (.withF64 fun _ => fpFinishS_isolated hmode)
  | sqrtD | roundLD | truncLD | ceilLD | floorLD | cvtDL | cvtLD =>
    exact .guardCp1 hx (.withF64 fun _ => fpFinishD_isolated hmode)
  | addD | subD | mulD | divD => exact .guardCp1 hx (.withF64 fun _ => .withF64 fun _ => fpFinishD_isolated hmode)
  | cFS | cUnS | cEqS | cUeqS | cOltS | cUltS | cOleS | cUleS | cSfS | cNgleS | cSeqS | cNglS | cLtS | cNgeS
  | cLeS | cNgtS => exact .guardCp1 hx (fpFinishC_isolated hmode)
  | cFD | cUnD | cEqD | cUeqD | cOltD | cUltD | cOleD | cUleD | cSfD | cNgleD | cSeqD | cNglD | cLtD | cNgeD
  | cLeD | cNgtD => exact .guardCp1 hx (.withF64 fun _ => .withF64 fun _ => fpFinishC_isolated hmode)

end instructions

/-- Settles O12: every template keeps the system state or takes an exception, and no instruction of coprocessor 0 is
usable. -/
theorem userModeIsolation : Obligations.UserModeIsolation := by
  intro i s t hmode hcu ht
  obtain ⟨hsystem, h⟩ := exec_isolated hmode hcu i t ht
  exact ⟨by simpa [State.system] using hsystem, h⟩

end Sys2Proof.Machine
end

section
/-! PROOFS. Coprocessor 1 (R481, R482, R484 to R489, R494 to R497): the registers a 32-bit access names as numbers, the
completion of an operation, and the moves, loads and stores. -/

namespace Sys2Proof.Machine

/-! ## The completion of an operation (R482) -/

theorem fcrSetCause_causeIs (w : Word) (fl : FpFlags) : CauseIs w (fcrSetCause w fl) fl := by
  have hmask : ∀ j < 32, (~~~0x0003F000#32).getLsbD j = !decide (12 ≤ j ∧ j ≤ 17) := by decide
  intro j hj
  have htop : ¬j - 12 < 5 → fl.getLsbD (j - 12) = false := fun h => BitVec.getLsbD_of_ge _ _ (Nat.le_of_not_lt h)
  rw [fcrSetCause, BitVec.getLsbD_or, BitVec.getLsbD_and, hmask j hj, fieldAt_getLsbD _ _ _ hj]
  grind

theorem fcrOrFlag_causeAndFlagsAre (w : Word) (fl : FpFlags) :
    CauseAndFlagsAre w (fcrOrFlag (fcrSetCause w fl) fl) fl := by
  intro j hj
  have htop : ¬j - 2 < 5 → fl.getLsbD (j - 2) = false := fun h => BitVec.getLsbD_of_ge _ _ (Nat.le_of_not_lt h)
  rw [fcrOrFlag, BitVec.getLsbD_or, fcrSetCause_causeIs w fl j hj, fieldAt_getLsbD _ _ _ hj]
  grind

/-- The test of an enabled flag, bit by bit (R482). -/
theorem enabled_iff (s : State) (fl : FpFlags) : fl &&& fcrEnable s.fcr31 ≠ 0#5 ↔ Enabled s fl := by
  rw [and_ne_zero_iff]
  refine exists_congr fun j => and_congr_right fun hj => ?_
  rw [fcrEnable, BitVec.getLsbD_extractLsb', decide_eq_true hj, Bool.true_and]

theorem fpFinish_enabled {s : State} {fl : FpFlags} (commit : State → Result) (h : Enabled s fl) :
    fpFinish s fl commit = .next (State.raise { s with fcr31 := fcrSetCause s.fcr31 fl } .fpe) :=
  if_pos ((enabled_iff s fl).2 h)

theorem fpFinish_disabled {s : State} {fl : FpFlags} (commit : State → Result) (h : ¬Enabled s fl) :
    fpFinish s fl commit = commit { s with fcr31 := fcrOrFlag (fcrSetCause s.fcr31 fl) fl } :=
  if_neg fun hn => h ((enabled_iff s fl).1 hn)

theorem fpFinish_trapsFpe {s : State} {fl : FpFlags} (commit : State → Result) (h : Enabled s fl) :
    TrapsFpe s (fpFinish s fl commit) fl :=
  ⟨_, fcrSetCause_causeIs _ _, fpFinish_enabled commit h⟩

/-- Settles O20: the two ends of `fpFinish`, the bits of FCR31 read in each. -/
theorem fpFinishRule : Obligations.FpFinishRule := fun _ _ commit =>
  ⟨fpFinish_trapsFpe commit, fun h => ⟨_, fcrOrFlag_causeAndFlagsAre _ _, fpFinish_disabled commit h⟩⟩

/-! ## The register a 32-bit access names (R481) -/

theorem evenReg_val (n : FReg) (h : ¬n.val % 2 = 0) : (evenReg n).val = n.val - 1 := by
  change n.val - n.val % 2 = n.val - 1
  omega

/-- The cells after a write of one of them. -/
theorem getElem_setCell (f : Vector DWord 32) (n : FReg) (v : DWord) (q : Fin 32) :
    (f.set n.val v)[q.val] = if q = n then v else f[q.val] := by
  rw [Vector.getElem_set]
  by_cases hq : q = n
  · rw [if_pos hq, if_pos (congrArg Fin.val hq.symm)]
  · rw [if_neg hq, if_neg fun h => hq (Fin.ext h.symm)]

/-- A 32-bit read is the number the register names. -/
theorem readF32_toNat (s : State) (n : FReg) : (s.readF32 n).toNat = single s n := by
  unfold State.readF32 single
  by_cases hfr : s.fr = true
  · simp [hfr]
  · by_cases hn : n.val % 2 = 0
    · simp [hn]
    · have hlt := (s.f[n.val - 1]'(by have := n.isLt; omega)).isLt
      simp only [hfr, hn, evenReg_val n hn, decide_false, or_self, Bool.false_eq_true, Bool.or_self, if_false,
        BitVec.extractLsb'_toNat, Nat.shiftRight_eq_div_pow]
      omega

/-- A 32-bit write changes nothing but the floating-point registers. -/
theorem writeF32_eq (s : State) (n : FReg) (v : Word) : s.writeF32 n v = { s with f := (s.writeF32 n v).f } := by
  unfold State.writeF32
  split
  · rfl
  · split <;> rfl

/-- The even cell of a pair with its lower half replaced. -/
theorem lowHalf_replaced (c : DWord) (v : Word) :
    c.extractLsb' 32 32 ++ v = BitVec.ofNat 64 (c.toNat / 2 ^ 32 * 2 ^ 32 + v.toNat) := by
  have hc := c.isLt
  refine BitVec.eq_of_toNat_eq ?_
  rw [toNat_append_eq, BitVec.extractLsb'_toNat, Nat.shiftRight_eq_div_pow, BitVec.toNat_ofNat]
  omega

/-- The even cell of a pair with its upper half replaced. -/
theorem highHalf_replaced (c : DWord) (v : Word) :
    v ++ c.extractLsb' 0 32 = BitVec.ofNat 64 (v.toNat * 2 ^ 32 + c.toNat % 2 ^ 32) := by
  have hv := v.isLt
  refine BitVec.eq_of_toNat_eq ?_
  rw [toNat_append_eq, BitVec.extractLsb'_toNat, Nat.shiftRight_zero, BitVec.toNat_ofNat]
  omega

/-- The cells after a 32-bit write, with FR = 1, to an even register, and to an odd one. -/
theorem writeF32_singleWritten (s : State) (n : FReg) (v : Word) :
    SingleWritten s.fr s.f (s.writeF32 n v).f n v.toNat := by
  intro q
  unfold State.writeF32
  by_cases hfr : s.fr = true
  · simp only [hfr, if_true, getElem_setCell, BitVec.ofNat_toNat]
  · by_cases hn : n.val % 2 = 0
    · simp only [hfr, hn, if_true, if_false, Bool.false_eq_true, getElem_setCell, lowHalf_replaced]
      by_cases hq : q = n
      · simp only [hq, if_true]
      · simp only [hq, if_false]
    · have hodd : q = evenReg n ↔ q.val + 1 = n.val := by
        rw [Fin.ext_iff, evenReg_val n hn]
        omega
      simp only [hfr, hn, if_false, Bool.false_eq_true, getElem_setCell, highHalf_replaced, ← hodd]
      by_cases hq : q = evenReg n
      · simp only [hq, if_true]
      · simp only [hq, if_false]

theorem writeF32_writesSingle (s : State) (n : FReg) (v : Word) : WritesSingle s (.next (s.writeF32 n v)) n v.toNat :=
  ⟨_, rfl, writeF32_eq s n v, fun _ => by rw [writeF32_mem], writeF32_singleWritten s n v⟩

/-! ## The register a 64-bit access names (R481, U21) -/

theorem setF_doubleWritten (f : Vector DWord 32) (n : FReg) (v : DWord) : DoubleWritten f (f.set n.val v) n v.toNat := by
  intro q
  rw [getElem_setCell, BitVec.ofNat_toNat, BitVec.setWidth_eq]

section legal
variable {s : State} {n : FReg}

theorem withF64_of_legal (k : DWord → Result) (h : Legal64 s n) : withF64 s n k = k s.f[n.val] :=
  withF64_legal s n k ((f64Legal_iff s n).2 h)

theorem withF64_of_not_legal (k : DWord → Result) (h : ¬Legal64 s n) : withF64 s n k = .refused .oddFpRegister := by
  rw [← f64Legal_iff, Bool.not_eq_true] at h
  simp [withF64, State.readF64, h]

theorem commitF64_of_not_legal (v : DWord) (h : ¬Legal64 s n) : commitF64 s n v = .refused .oddFpRegister := by
  rw [← f64Legal_iff, Bool.not_eq_true] at h
  simp [commitF64, State.writeF64, h]

/-- What holds of a result when the source register may be named holds, or the access is refused. -/
theorem needs64_of_withF64 {k : DWord → Result} {r : Result} {P : Prop} (hr : r = withF64 s n k)
    (h : r = k s.f[n.val] → P) : Needs64 s n r P :=
  ⟨fun hl => h (hr.trans (withF64_of_legal k hl)), fun hl => hr.trans (withF64_of_not_legal k hl)⟩

/-- A 64-bit write completes, or is refused. -/
theorem commitF64_needs64 (v : DWord) : Needs64 s n (commitF64 s n v) (WritesDouble s (commitF64 s n v) n v.toNat) :=
  ⟨fun hl => ⟨_, commitF64_legal s n v ((f64Legal_iff s n).2 hl), rfl, fun _ => rfl, setF_doubleWritten _ _ _⟩,
    commitF64_of_not_legal v⟩

end legal

/-! ## Moves (R484 to R489) -/

/-- A word sign-extended is the pattern of its number, signed or not. -/
theorem signExtend_eq_wordOf_toNat (v : Word) : v.signExtend 64 = wordOf v.toNat := by
  rw [← signExtend_ofInt, BitVec.ofInt_natCast, BitVec.ofNat_toNat, BitVec.setWidth_eq]

theorem signExtend_eq_wordOf_toInt (v : Word) : v.signExtend 64 = wordOf v.toInt := by
  rw [← signExtend_ofInt, BitVec.ofInt_toInt]

theorem readFcr_toInt (s : State) (n : CReg) :
    (s.readFcr n).toInt = if n = 0 then s.params.fcr0.toInt else if n = 31 then s.fcr31.toInt else 0 := by
  have h0 : n.val = 0 ↔ n = 0 := (Fin.ext_iff (b := 0)).symm
  have h31 : n.val = 31 ↔ n = 31 := (Fin.ext_iff (b := 31)).symm
  simp only [State.readFcr, h0, h31, apply_ite BitVec.toInt]
  rfl

/-- The writable bits of FCR31 (R33, R489). -/
theorem low32_and_fcr31Mask_hasBits (v : DWord) :
    HasBits (low32 v &&& fcr31Mask) fun j => v.getLsbD j && decide (j ≤ 17 ∨ j = 23 ∨ j = 24) := by
  have hmask : ∀ j < 32, fcr31Mask.getLsbD j = decide (j ≤ 17 ∨ j = 23 ∨ j = 24) := by decide
  intro j hj
  rw [low32, BitVec.getLsbD_and, BitVec.getLsbD_setWidth, decide_eq_true hj, Bool.true_and, hmask j hj]

/-- When a value of FCR31 asks for the exception, bit by bit (R489). -/
theorem fcrRaises_iff (w : Word) : fcrRaises w = true ↔
    w.getLsbD 17 = true ∨ ∃ j, j < 5 ∧ w.getLsbD (12 + j) = true ∧ w.getLsbD (7 + j) = true := by
  rw [fcrRaises, Bool.or_eq_true, decide_eq_true_eq, and_ne_zero_iff]
  refine or_congr Iff.rfl (exists_congr fun j => and_congr_right fun hj => ?_)
  rw [fcrCause, fcrEnable, BitVec.getLsbD_extractLsb', BitVec.getLsbD_extractLsb', decide_eq_true hj, Bool.true_and,
    Bool.true_and]

theorem writeFcr_other {n : CReg} (s : State) (v : Word) (h : n ≠ 31) : s.writeFcr n v = s :=
  if_neg fun hn => h (Fin.ext hn)

theorem writeFcr_raises {s : State} {v : Word} (h : fcrRaises (v &&& fcr31Mask) = true) :
    s.writeFcr 31 v = State.raise { s with fcr31 := v &&& fcr31Mask } .fpe := if_pos h

theorem writeFcr_quiet {s : State} {v : Word} (h : ¬fcrRaises (v &&& fcr31Mask) = true) :
    s.writeFcr 31 v = { s with fcr31 := v &&& fcr31Mask } := if_neg h

/-- Settles O50: the reads and writes of the register file as numbers, and FCR31 bit by bit. -/
theorem fpMoves : Obligations.FpMoves := by
  intro s rt g n hcu
  have hcp (r : Result) : guardCp1 s r = r := guardCp1_ok s r hcu
  refine ⟨?_, ?_, fun hw => ⟨?_, ?_⟩, ?_, fun hn => ?_, fun hn => ?_⟩
  · rw [show exec (.mfc1 rt g) s = .next (s.setX rt ((s.readF32 g).signExtend 64)) from hcp _,
      signExtend_eq_wordOf_toNat, readF32_toNat]
    exact setX_writesX s rt _
  · rw [show exec (.mtc1 rt g) s = .next (s.writeF32 g (low32 (s.getX rt))) from hcp _, ← toNat_low32]
    exact writeF32_writesSingle s g _
  · have hr : exec (.dmfc1 rt g) s = withF64 s g fun v => .next (s.setX rt v) :=
      (hcp _).trans (guardOps64_ok s _ hw)
    exact needs64_of_withF64 hr fun h => h ▸ setX_writesX s rt _
  · rw [show exec (.dmtc1 rt g) s = commitF64 s g (s.getX rt) from (hcp _).trans (guardOps64_ok s _ hw)]
    exact commitF64_needs64 _
  · rw [show exec (.cfc1 rt n) s = .next (s.setX rt ((s.readFcr n).signExtend 64)) from hcp _,
      signExtend_eq_wordOf_toInt, readFcr_toInt]
    exact setX_writesX s rt _
  · rw [show exec (.ctc1 rt n) s = .next (s.writeFcr n (low32 (s.getX rt))) from hcp _, writeFcr_other s _ hn]
  · subst hn
    refine ⟨low32 (s.getX rt) &&& fcr31Mask, low32_and_fcr31Mask_hasBits _, fun h => ?_, fun h => ?_⟩
    · rw [← fcrRaises_iff] at h
      exact (hcp _).trans (congrArg _ (writeFcr_raises h))
    · rw [← fcrRaises_iff] at h
      exact (hcp _).trans (congrArg _ (writeFcr_quiet h))

/-! ## Loads and stores (R494 to R497) -/

/-- A store that succeeds stores the low `n` bytes of its value, and nothing else changes (R111). -/
theorem store_stores (s : State) (va : DWord) (n : Nat) (v : DWord) (pa : PAddr)
    (hn : n = 1 ∨ n = 2 ∨ n = 4 ∨ n = 8) (hm : Memory.wf s.mem = true) (h : AccessOk s .store va n pa) :
    Stores s ((store s va n v).andThen .next) (firstByte s pa n) n (v.toNat % 2 ^ (8 * n)) := by
  rw [store_ok s va n v pa h, andThen_done, State.storeCellsAt,
    dataAddress_toNat s pa n hn (accessOk_aligned s .store va n pa hn h)]
  exact ⟨_, rfl, rfl, writeCells_stored s _ n v hm (by omega)⟩

/-- A number that fits `w` bits is the number of its pattern cut to them. -/
theorem setWidth_dwordOf_toNat (w n : Nat) (hw : w ≤ 64) (hn : n < 2 ^ w) : ((dwordOf n).setWidth w).toNat = n := by
  have h64 : n < 2 ^ 64 := hn.trans_le (Nat.pow_le_pow_right (by decide) hw)
  rw [dwordOf, BitVec.ofInt_natCast, BitVec.toNat_setWidth, BitVec.toNat_ofNat, Nat.mod_eq_of_lt h64,
    Nat.mod_eq_of_lt hn]

/-- Settles O51: each is a located read or write of the register's number. -/
theorem fpLoadsAndStores : Obligations.FpLoadsAndStores := by
  intro s g base off pa hcu hm va
  refine ⟨fun h => ?_, fun h => ?_, fun h => ?_, fun h => ?_⟩
  · rw [exec_lwc1 s base g off hcu, load_done s _ 4 pa (by decide) h, andThen_done]
    have hw := writeF32_writesSingle s g (low32 (dwordOf (numberAt s (firstByte s pa 4) 4)))
    rwa [low32, setWidth_dwordOf_toNat 32 _ (by decide) (numberAt_lt s _ 4)] at hw
  · rw [exec_ldc1 s base g off hcu, load_done s _ 8 pa (by decide) h, andThen_done]
    have hw := commitF64_needs64 (s := s) (n := g) (dwordOf (numberAt s (firstByte s pa 8) 8))
    have hv := setWidth_dwordOf_toNat 64 _ le_rfl (numberAt_lt s (firstByte s pa 8) 8)
    rw [BitVec.setWidth_eq] at hv
    rwa [hv] at hw
  · rw [exec_swc1 s base g off hcu]
    have hst := store_stores s va 4 ((s.readF32 g).setWidth 64) pa (by decide) hm h
    rwa [BitVec.toNat_setWidth_of_le (by decide), Nat.mod_eq_of_lt (s.readF32 g).isLt, readF32_toNat] at hst
  · refine needs64_of_withF64 (exec_sdc1 s base g off hcu) fun hr => ?_
    have hst := store_stores s va 8 s.f[g.val] pa (by decide) hm h
    rw [hr]
    rwa [Nat.mod_eq_of_lt s.f[g.val].isLt] at hst

end Sys2Proof.Machine
end

section
/-! PROOFS. Floating-point operations (R482, R521 to R540, R557 to R562, R567 to R598): how each template finishes, and
the operands each instruction hands to the library. -/

namespace Sys2Proof.Machine

/-! ## Results finished (R482, R521) -/

section finishes
variable {s : State} {d a b : FReg}

theorem fpFinish_commitS (r : FpResult) : FinishesSingle s (fpFinish s r.2 (commitS d r.1)) d r := by
  refine ⟨fun h => ?_, fpFinish_trapsFpe _⟩
  rw [fpFinish_disabled _ h, commitS]
  have hw := writeF32_singleWritten { s with fcr31 := fcrOrFlag (fcrSetCause s.fcr31 r.2) r.2 } d (BitVec.ofNat 32 r.1)
  rw [BitVec.toNat_ofNat] at hw
  refine ⟨_, rfl, ?_, fun _ => by rw [writeF32_mem], ?_, hw⟩
  · rw [writeF32_eq]
  · rw [writeF32_fcr31]
    exact fcrOrFlag_causeAndFlagsAre _ _

theorem fpFinish_commitD (r : FpResult) : FinishesDouble s (fpFinish s r.2 (commitD d r.1)) d r := by
  refine ⟨fun h => ?_, fpFinish_trapsFpe _⟩
  rw [fpFinish_disabled _ h, commitD]
  refine ⟨fun hl => ?_, fun hl => ?_⟩
  · rw [commitF64_legal { s with fcr31 := fcrOrFlag (fcrSetCause s.fcr31 r.2) r.2 } d _ ((f64Legal_iff s d).2 hl)]
    refine ⟨_, rfl, rfl, fun _ => rfl, fcrOrFlag_causeAndFlagsAre _ _, fun q => ?_⟩
    exact getElem_setCell s.f d _ q
  · exact commitF64_of_not_legal _ hl

/-- The condition bit written after the flags (R524). -/
theorem fcrSetC_hasBits (w : Word) (c : Bool) : HasBits (fcrSetC w c) fun j => if j = 23 then c else w.getLsbD j := by
  have hmask : ∀ j < 32, (~~~0x00800000#32).getLsbD j = !decide (j = 23) := by decide
  have hc : ∀ c : Bool, ∀ j < 32, (if c then 0x00800000#32 else 0#32).getLsbD j = (c && decide (j = 23)) := by decide
  intro j hj
  rw [fcrSetC, BitVec.getLsbD_or, BitVec.getLsbD_and, hmask j hj, hc c j hj]
  by_cases h : j = 23 <;> simp [h]

theorem fpFinish_commitC (c : Bool) (fl : FpFlags) : FinishesCompare s (fpFinish s fl (commitC c)) c fl := by
  refine ⟨fun h => ?_, fpFinish_trapsFpe _⟩
  rw [fpFinish_disabled _ h]
  exact ⟨_, _, rfl, rfl, fun _ => rfl, fcrOrFlag_causeAndFlagsAre _ _, fcrSetC_hasBits _ _⟩

/-! ## The templates (R521, R524) -/

variable (hcu : s.cu1 = true)
include hcu

theorem binaryS_finishes (op : FpBinary) :
    FinishesSingle s (binaryS op d a b s) d (op s.rm s.enableU (single s a) (single s b)) := by
  rw [binaryS, guardCp1_ok s _ hcu, readF32_toNat, readF32_toNat]
  exact fpFinish_commitS _

theorem unarySS_finishes (op : FpUnary) :
    FinishesSingle s (unarySS op d a s) d (op s.rm s.enableU (single s a)) := by
  rw [unarySS, guardCp1_ok s _ hcu, readF32_toNat]
  exact fpFinish_commitS _

theorem unarySD_finishes (op : FpUnary) :
    FinishesDouble s (unarySD op d a s) d (op s.rm s.enableU (single s a)) := by
  rw [unarySD, guardCp1_ok s _ hcu, readF32_toNat]
  exact fpFinish_commitD _

theorem unaryDS_finishes (op : FpUnary) : Needs64 s a (unaryDS op d a s)
    (FinishesSingle s (unaryDS op d a s) d (op s.rm s.enableU s.f[a.val].toNat)) :=
  needs64_of_withF64 (guardCp1_ok s _ hcu) fun hr => hr ▸ fpFinish_commitS _

theorem unaryDD_finishes (op : FpUnary) : Needs64 s a (unaryDD op d a s)
    (FinishesDouble s (unaryDD op d a s) d (op s.rm s.enableU s.f[a.val].toNat)) :=
  needs64_of_withF64 (guardCp1_ok s _ hcu) fun hr => hr ▸ fpFinish_commitD _

theorem binaryD_finishes (op : FpBinary) : Needs64 s a (binaryD op d a b s) (Needs64 s b (binaryD op d a b s)
    (FinishesDouble s (binaryD op d a b s) d (op s.rm s.enableU s.f[a.val].toNat s.f[b.val].toNat))) :=
  needs64_of_withF64 (guardCp1_ok s _ hcu) fun ha =>
    needs64_of_withF64 ha fun hr => hr ▸ fpFinish_commitD _

theorem compareS_finishes (c : BitVec 4) : FinishesCompare s (compareS c a b s)
    (fpCompare fmtS c (single s a) (single s b)).1 (fpCompare fmtS c (single s a) (single s b)).2 := by
  rw [compareS, guardCp1_ok s _ hcu, readF32_toNat, readF32_toNat]
  exact fpFinish_commitC _ _

theorem compareD_finishes (c : BitVec 4) : Needs64 s a (compareD c a b s) (Needs64 s b (compareD c a b s)
    (FinishesCompare s (compareD c a b s) (fpCompare fmtD c s.f[a.val].toNat s.f[b.val].toNat).1
      (fpCompare fmtD c s.f[a.val].toNat s.f[b.val].toNat).2)) :=
  needs64_of_withF64 (guardCp1_ok s _ hcu) fun ha =>
    needs64_of_withF64 ha fun hr => hr ▸ fpFinish_commitC _ _

/-- A pattern computed from a 64-bit source, written to a 64-bit register (R536, R538, R540). -/
theorem patternD_writes (f : DWord → DWord) {r : Result}
    (hr : r = guardCp1 s (withF64 s a fun v => commitF64 s d (f v))) :
    Needs64 s a r (Needs64 s d r (WritesDouble s r d (f s.f[a.val]).toNat)) :=
  needs64_of_withF64 (hr.trans (guardCp1_ok s _ hcu)) fun h => h ▸ commitF64_needs64 _

end finishes

/-! ## Arithmetic (R525 to R534) -/

/-- Settles O52: each instruction is its template with the library's operation. -/
theorem fpArithmetic : Obligations.FpArithmetic := by
  intro s d a b hcu
  refine ⟨binaryS_finishes hcu _, binaryS_finishes hcu _, binaryS_finishes hcu _, binaryS_finishes hcu _,
    unarySS_finishes hcu _, fun p hp => ?_, unaryDD_finishes hcu _⟩
  fin_cases hp <;> exact binaryD_finishes hcu _

/-! ## Sign operations (R535 to R540) -/

/-- A mask of all bits but the sign clears the sign. -/
theorem toNat_and_lowMask {w : Nat} (v : BitVec (w + 1)) :
    (v &&& BitVec.ofNat (w + 1) (2 ^ w - 1)).toNat = v.toNat % 2 ^ w := by
  have hlt : 2 ^ w - 1 < 2 ^ (w + 1) :=
    (Nat.sub_le _ _).trans_lt (Nat.pow_lt_pow_right (by decide) (Nat.lt_succ_self w))
  rw [BitVec.toNat_and, BitVec.toNat_ofNat, Nat.mod_eq_of_lt hlt, Nat.and_two_pow_sub_one_eq_mod]

/-- The sign inverted is the top power added, with its carry lost. -/
theorem toNat_xor_signBit {w : Nat} (v : BitVec (w + 1)) :
    (v ^^^ BitVec.ofNat (w + 1) (2 ^ w)).toNat = (v.toNat + 2 ^ w) % 2 ^ (w + 1) := by
  have hlt : 2 ^ w < 2 ^ (w + 1) := Nat.pow_lt_pow_right (by decide) (Nat.lt_succ_self w)
  rw [BitVec.toNat_xor, BitVec.toNat_ofNat, Nat.mod_eq_of_lt hlt]
  refine Nat.eq_of_testBit_eq fun i => ?_
  rw [Nat.testBit_xor, Nat.testBit_two_pow, Nat.testBit_mod_two_pow, Nat.add_comm v.toNat]
  obtain hi | rfl | hi := lt_trichotomy i w
  · rw [Nat.testBit_two_pow_add_gt hi, decide_eq_false hi.ne', decide_eq_true (hi.trans (Nat.lt_succ_self w)),
      Bool.true_and, Bool.xor_false]
  · rw [Nat.testBit_two_pow_add_eq, decide_eq_true rfl, decide_eq_true (Nat.lt_succ_self i), Bool.true_and,
      Bool.xor_true]
  · have hv : v.toNat.testBit i = false := BitVec.getLsbD_of_ge v i hi
    rw [hv, decide_eq_false hi.ne, decide_eq_false (Nat.not_lt.2 hi), Bool.false_and, Bool.xor_false]

/-- Settles O53: the sign cleared, kept or inverted is arithmetic on the number of the pattern. -/
theorem fpSignOperations : Obligations.FpSignOperations := by
  intro s d a hcu x y
  have hcp (r : Result) : guardCp1 s r = r := guardCp1_ok s r hcu
  have hx : (s.readF32 a).toNat = x := readF32_toNat s a
  refine ⟨?_, ?_, ?_, fun p hp => ?_⟩
  · rw [show exec (.absS d a) s = .next (s.writeF32 d (s.readF32 a &&& BitVec.ofNat 32 (2 ^ 31 - 1))) from hcp _,
      ← hx, ← toNat_and_lowMask]
    exact writeF32_writesSingle s d _
  · rw [show exec (.movS d a) s = .next (s.writeF32 d (s.readF32 a)) from hcp _, ← hx]
    exact writeF32_writesSingle s d _
  · rw [show exec (.negS d a) s = .next (s.writeF32 d (s.readF32 a ^^^ BitVec.ofNat 32 (2 ^ 31))) from hcp _,
      ← hx, ← toNat_xor_signBit]
    exact writeF32_writesSingle s d _
  · fin_cases hp
    · exact toNat_and_lowMask (w := 63) s.f[a.val] ▸ patternD_writes hcu (· &&& BitVec.ofNat 64 (2 ^ 63 - 1)) rfl
    · exact patternD_writes hcu id rfl
    · exact toNat_xor_signBit (w := 63) s.f[a.val] ▸ patternD_writes hcu (· ^^^ BitVec.ofNat 64 (2 ^ 63)) rfl

/-! ## Conversions to a floating-point format (R557 to R562) -/

theorem signedW_eq (n : Nat) : signedW n = Int.bmod n (2 ^ 32) := BitVec.toInt_ofNat ..

theorem signedL_toNat (v : DWord) : signedL v.toNat = v.toInt := by
  rw [signedL, BitVec.ofNat_toNat, BitVec.setWidth_eq]

/-- Settles O55: each conversion is its template, the integer sources as signed numbers. -/
theorem fpConversions : Obligations.FpConversions := by
  intro s d a hcu rm u w l
  have hw : w = signedW (single s a) := (signedW_eq _).symm
  have hl : l = signedL s.f[a.val].toNat := (signedL_toNat _).symm
  rw [hw, hl]
  exact ⟨unarySS_finishes hcu fun rm u v => fpOfInt fmtS rm u (signedW v),
    unarySD_finishes hcu fun rm u v => fpOfInt fmtD rm u (signedW v), unarySD_finishes hcu _, unaryDS_finishes hcu _,
    unaryDS_finishes hcu fun rm u v => fpOfInt fmtS rm u (signedL v),
    unaryDD_finishes hcu fun rm u v => fpOfInt fmtD rm u (signedL v)⟩

/-! ## Comparisons (R524) -/

section compare
variable (fmt : FpFormat) (c : BitVec 4) (x y : Nat)

/-- The condition of a comparison from the bits of its number (R524). -/
theorem fpCompare_fst : (fpCompare fmt c x y).1 =
    ((decide (c.toNat / 4 % 2 = 1) && !fpUnordered fmt x y && fpLt fmt x y) ||
      (decide (c.toNat / 2 % 2 = 1) && !fpUnordered fmt x y && fpEq fmt x y) ||
      (decide (c.toNat % 2 = 1) && fpUnordered fmt x y)) := by
  have hless : c.getLsbD 2 = decide (c.toNat / 4 % 2 = 1) := by revert c; decide
  have hequal : c.getLsbD 1 = decide (c.toNat / 2 % 2 = 1) := by clear hless; revert c; decide
  have hunordered : c.getLsbD 0 = decide (c.toNat % 2 = 1) := by clear hless hequal; revert c; decide
  simp only [fpCompare, fpCondition, hless, hequal, hunordered, Bool.and_assoc]

/-- The flags of a comparison: V for a signalling operand, and for an unordered pair from the condition 8 on. -/
theorem fpCompare_snd : (fpCompare fmt c x y).2 =
    if fpIsSNaN fmt x || fpIsSNaN fmt y || (decide (8 ≤ c.toNat) && fpUnordered fmt x y) then 0x10#5 else 0#5 := by
  have hsignal : c.getLsbD 3 = decide (8 ≤ c.toNat) := by revert c; decide
  have hflags : ∀ v : Bool, fpFlags v false false false false = if v then 0x10#5 else 0#5 := by decide
  rw [← hflags, ← hsignal]
  rfl

end compare

/-- Settles O56: the condition and the flags of each comparison, from the bits of its number. -/
theorem fpCompares : Obligations.FpCompares := by
  intro s a b hcu cond fl x y p q
  have hS (c : BitVec 4) : FinishesCompare s (compareS c a b s) (cond fmtS c.toNat x y) (fl fmtS c.toNat x y) := by
    have h := compareS_finishes (a := a) (b := b) hcu c
    rwa [fpCompare_fst, fpCompare_snd] at h
  have hD (c : BitVec 4) : Needs64 s a (compareD c a b s) (Needs64 s b (compareD c a b s)
      (FinishesCompare s (compareD c a b s) (cond fmtD c.toNat p q) (fl fmtD c.toNat p q))) := by
    have h := compareD_finishes (a := a) (b := b) hcu c
    rwa [fpCompare_fst, fpCompare_snd] at h
  refine ⟨fun i hi => ?_, fun i hi => ?_⟩
  · fin_cases hi
    exacts [hS 0, hS 1, hS 2, hS 3, hS 4, hS 5, hS 6, hS 7, hS 8, hS 9, hS 10, hS 11, hS 12, hS 13, hS 14, hS 15]
  · fin_cases hi
    exacts [hD 0, hD 1, hD 2, hD 3, hD 4, hD 5, hD 6, hD 7, hD 8, hD 9, hD 10, hD 11, hD 12, hD 13, hD 14, hD 15]

end Sys2Proof.Machine
end

section
/-! PROOFS. The numbers floating-point patterns stand for (R520): a pattern is its sign and magnitude, the number of a
magnitude rises with it, and so the order of the library is the order of the numbers. -/

namespace Sys2Proof.Machine

/-! ## Signed values -/

/-- A magnitude with a sign. -/
def signed {R : Type} [Neg R] (neg : Bool) (y : R) : R := if neg then -y else y

@[simp] theorem signed_true {R : Type} [Neg R] (y : R) : signed true y = -y := rfl

@[simp] theorem signed_false {R : Type} [Neg R] (y : R) : signed false y = y := rfl

/-- The formats the core has meet the bounds the general lemmas ask. -/
theorem format_bounds {fmt : FpFormat} (h : fmt ∈ [fmtS, fmtD]) : 2 ≤ fmt.expBits ∧ 1 ≤ fmt.fracBits := by
  fin_cases h <;> decide

/-! ## Sign and magnitude -/

section pattern
variable (fmt : FpFormat)

theorem fpMagnitude_lt (b : Nat) : fpMagnitude fmt b < 2 ^ (fmt.expBits + fmt.fracBits) :=
  Nat.mod_lt _ (Nat.two_pow_pos _)

/-- The exponent field of a magnitude. -/
theorem fpMagnitude_div (b : Nat) : fpMagnitude fmt b / 2 ^ fmt.fracBits = b / 2 ^ fmt.fracBits % 2 ^ fmt.expBits := by
  rw [fpMagnitude, Nat.add_comm, pow_add, Nat.mod_mul_right_div_self]

/-- The fraction field of a magnitude. -/
theorem fpMagnitude_mod (b : Nat) : fpMagnitude fmt b % 2 ^ fmt.fracBits = b % 2 ^ fmt.fracBits :=
  Nat.mod_mod_of_dvd _ (pow_dvd_pow 2 (Nat.le_add_left _ _))

/-- Infinity is the greatest magnitude with fraction zero. -/
theorem fpInfMagnitude_add : fpInfMagnitude fmt + 2 ^ fmt.fracBits = 2 ^ (fmt.expBits + fmt.fracBits) := by
  rw [fpInfMagnitude, ← Nat.succ_mul, Nat.succ_eq_add_one, Nat.sub_add_cancel Nat.one_le_two_pow, pow_add]

theorem fpInfMagnitude_lt : fpInfMagnitude fmt < 2 ^ (fmt.expBits + fmt.fracBits) := by
  rw [← fpInfMagnitude_add]
  exact Nat.lt_add_of_pos_right (Nat.two_pow_pos _)

/-- The exponent field is all ones from the magnitude of infinity on. -/
theorem exponent_all_ones_iff {m : Nat} (hm : m < 2 ^ (fmt.expBits + fmt.fracBits)) :
    m / 2 ^ fmt.fracBits = 2 ^ fmt.expBits - 1 ↔ fpInfMagnitude fmt ≤ m := by
  have hF : 0 < 2 ^ fmt.fracBits := Nat.two_pow_pos _
  have hlt : m / 2 ^ fmt.fracBits < 2 ^ fmt.expBits := Nat.div_lt_of_lt_mul (by rwa [← pow_add, Nat.add_comm])
  rw [fpInfMagnitude, ← Nat.le_div_iff_mul_le hF]
  omega

/-- From the magnitude of infinity on, the fraction is what the magnitude exceeds it by. -/
theorem fraction_eq_sub {m : Nat} (hm : m < 2 ^ (fmt.expBits + fmt.fracBits)) (h : fpInfMagnitude fmt ≤ m) :
    m % 2 ^ fmt.fracBits = m - fpInfMagnitude fmt := by
  have hex := (exponent_all_ones_iff fmt hm).2 h
  have hdiv := Nat.div_add_mod m (2 ^ fmt.fracBits)
  rw [hex, Nat.mul_comm, ← fpInfMagnitude] at hdiv
  omega

theorem isNaN_iff (b : Nat) : IsNaN fmt b ↔ fpInfMagnitude fmt < fpMagnitude fmt b := by
  have hm := fpMagnitude_lt fmt b
  rw [IsNaN, ← fpMagnitude_div, ← fpMagnitude_mod, exponent_all_ones_iff fmt hm]
  constructor
  · rintro ⟨h, hne⟩
    rw [fraction_eq_sub fmt hm h] at hne
    omega
  · intro h
    refine ⟨h.le, ?_⟩
    rw [fraction_eq_sub fmt hm h.le]
    omega

theorem fpIsNaN_iff (b : Nat) : fpIsNaN fmt b = true ↔ IsNaN fmt b := by
  rw [fpIsNaN, decide_eq_true_eq, isNaN_iff]

/-- A pattern made of a sign and a magnitude has them. -/
theorem fpMagnitude_fpPack (neg : Bool) {m : Nat} (hm : m < 2 ^ (fmt.expBits + fmt.fracBits)) :
    fpMagnitude fmt (fpPack fmt neg m) = m := by
  unfold fpMagnitude fpPack
  cases neg with
  | true => rw [if_pos rfl, Nat.add_mod_left, Nat.mod_eq_of_lt hm]
  | false => rw [if_neg Bool.false_ne_true, Nat.zero_add, Nat.mod_eq_of_lt hm]

theorem fpPack_div (neg : Bool) {m : Nat} (hm : m < 2 ^ (fmt.expBits + fmt.fracBits)) :
    fpPack fmt neg m / 2 ^ (fmt.expBits + fmt.fracBits) = if neg then 1 else 0 := by
  unfold fpPack
  cases neg with
  | true => rw [if_pos rfl, if_pos rfl, Nat.add_div_left _ (Nat.two_pow_pos _), Nat.div_eq_of_lt hm]
  | false => rw [if_neg Bool.false_ne_true, if_neg Bool.false_ne_true, Nat.zero_add, Nat.div_eq_of_lt hm]

theorem fpSign_fpPack (neg : Bool) {m : Nat} (hm : m < 2 ^ (fmt.expBits + fmt.fracBits)) :
    fpSign fmt (fpPack fmt neg m) = neg := by
  rw [fpSign, fpPack_div fmt neg hm]
  cases neg <;> rfl

theorem fpPack_lt (neg : Bool) {m : Nat} (hm : m < 2 ^ (fmt.expBits + fmt.fracBits)) :
    fpPack fmt neg m < 2 ^ fmt.width := by
  rw [FpFormat.width, Nat.add_assoc, pow_add]
  unfold fpPack
  split <;> omega

variable {fmt}

/-- A pattern that fits its width has its sign in the top bit. -/
theorem fpSign_eq {b : Nat} (hb : b < 2 ^ fmt.width) : fpSign fmt b = decide (b / 2 ^ (fmt.width - 1) = 1) := by
  rw [FpFormat.width, Nat.add_assoc, pow_add] at hb
  have hlt : b / 2 ^ (fmt.expBits + fmt.fracBits) < 2 := Nat.div_lt_of_lt_mul (by omega)
  rw [fpSign, FpFormat.width, Nat.add_assoc, Nat.add_sub_cancel_left, Nat.mod_eq_of_lt hlt]

/-- A pattern is its sign and its magnitude. -/
theorem fpPack_sign_magnitude {b : Nat} (hb : b < 2 ^ fmt.width) :
    fpPack fmt (fpSign fmt b) (fpMagnitude fmt b) = b := by
  rw [FpFormat.width, Nat.add_assoc, pow_add] at hb
  have hlt : b / 2 ^ (fmt.expBits + fmt.fracBits) < 2 := Nat.div_lt_of_lt_mul (by omega)
  have hdiv := Nat.div_add_mod b (2 ^ (fmt.expBits + fmt.fracBits))
  unfold fpPack fpSign fpMagnitude
  obtain h | h := Nat.le_one_iff_eq_zero_or_eq_one.1 (Nat.le_of_lt_succ hlt)
  · rw [h] at hdiv
    simp only [h]
    simpa using hdiv
  · rw [h] at hdiv
    simp only [h]
    simpa using hdiv

theorem isInf_iff_eq (neg : Bool) (b : Nat) : IsInf fmt neg b ↔ b = fpInf fmt neg := by
  rw [IsInf, fpInf, fpPack, fpInfMagnitude, Nat.add_comm fmt.fracBits]

theorem isInf_fpInf (neg : Bool) : IsInf fmt neg (fpInf fmt neg) := (isInf_iff_eq neg _).2 rfl

theorem IsInf.magnitude {neg : Bool} {b : Nat} (h : IsInf fmt neg b) : fpMagnitude fmt b = fpInfMagnitude fmt := by
  rw [(isInf_iff_eq neg b).1 h, fpInf, fpMagnitude_fpPack fmt neg (fpInfMagnitude_lt fmt)]

theorem IsInf.sign {neg : Bool} {b : Nat} (h : IsInf fmt neg b) : fpSign fmt b = neg := by
  rw [(isInf_iff_eq neg b).1 h, fpInf, fpSign_fpPack fmt neg (fpInfMagnitude_lt fmt)]

end pattern

/-! ## The number of a magnitude -/

section magnitude
variable (fmt : FpFormat)

/-- The integer significand of a finite magnitude. -/
def significand (m : Nat) : Nat := (if m / 2 ^ fmt.fracBits = 0 then 0 else 2 ^ fmt.fracBits) + m % 2 ^ fmt.fracBits

/-- The exponent of the unit of a finite magnitude. -/
def unitExponent (m : Nat) : ℤ := fmt.emin + (m / 2 ^ fmt.fracBits - 1 : ℕ)

/-- The number a finite magnitude stands for. -/
def magnitudeRat (m : Nat) : ℚ := significand fmt m * 2 ^ unitExponent fmt m

theorem leastUnit_eq : leastUnit fmt = fmt.emin := by
  simp [leastUnit, FpFormat.emin]

/-- What a pattern denotes, by its magnitude. -/
theorem fpUnpack_eq (b : Nat) : fpUnpack fmt b =
    if fpMagnitude fmt b < fpInfMagnitude fmt then
      .finite (fpSign fmt b) (significand fmt (fpMagnitude fmt b)) (unitExponent fmt (fpMagnitude fmt b))
    else if fpMagnitude fmt b = fpInfMagnitude fmt then .inf (fpSign fmt b) else .nan := by
  have hm := fpMagnitude_lt fmt b
  unfold fpUnpack
  simp only [exponent_all_ones_iff fmt hm]
  by_cases hinf : fpInfMagnitude fmt ≤ fpMagnitude fmt b
  · have hzero : fpMagnitude fmt b % 2 ^ fmt.fracBits = 0 ↔ fpMagnitude fmt b = fpInfMagnitude fmt := by
      rw [fraction_eq_sub fmt hm hinf]
      omega
    rw [if_pos hinf, if_neg (Nat.not_lt.2 hinf)]
    simp only [hzero]
  · rw [if_neg hinf, if_pos (Nat.lt_of_not_le hinf), significand, unitExponent]
    by_cases hsub : fpMagnitude fmt b / 2 ^ fmt.fracBits = 0
    · simp [hsub]
    · simp [hsub]

/-- The number of a pattern, by its sign and magnitude. -/
theorem fpRat_eq (b : Nat) : fpRat fmt b =
    if fpMagnitude fmt b < fpInfMagnitude fmt then some (signed (fpSign fmt b) (magnitudeRat fmt (fpMagnitude fmt b)))
    else none := by
  have hm := fpMagnitude_lt fmt b
  have hsign : (if b / 2 ^ (fmt.fracBits + fmt.expBits) % 2 = 1 then -1 else 1 : ℚ) = signed (fpSign fmt b) 1 := by
    rw [fpSign, Nat.add_comm fmt.fracBits]
    by_cases h : b / 2 ^ (fmt.expBits + fmt.fracBits) % 2 = 1 <;> simp [h]
  have hmul (y z : ℚ) : signed (fpSign fmt b) 1 * y * z = signed (fpSign fmt b) (y * z) := by
    cases fpSign fmt b <;> simp
  unfold fpRat
  simp only [hsign, ← fpMagnitude_div fmt b, ← fpMagnitude_mod fmt b, exponent_all_ones_iff fmt hm, hmul]
  by_cases hinf : fpInfMagnitude fmt ≤ fpMagnitude fmt b
  · rw [if_pos hinf, if_neg (Nat.not_lt.2 hinf)]
  · rw [if_neg hinf, if_pos (Nat.lt_of_not_le hinf), magnitudeRat, significand, unitExponent]
    by_cases hsub : fpMagnitude fmt b / 2 ^ fmt.fracBits = 0
    · have hunit : (1 - (2 ^ (fmt.expBits - 1) - 1) - fmt.fracBits : ℤ) = fmt.emin + (0 - 1 : ℕ) := by
        rw [FpFormat.emin]
        push_cast
        ring
      rw [if_pos hsub, if_pos hsub, hsub, hunit, Nat.zero_add]
    · have hunit : ((fpMagnitude fmt b / 2 ^ fmt.fracBits : ℕ) - (2 ^ (fmt.expBits - 1) - 1) - fmt.fracBits : ℤ) =
          fmt.emin + (fpMagnitude fmt b / 2 ^ fmt.fracBits - 1 : ℕ) := by
        rw [FpFormat.emin, Nat.cast_sub (Nat.one_le_iff_ne_zero.2 hsub)]
        push_cast
        ring
      rw [if_neg hsub, if_neg hsub, hunit, Nat.cast_add, Nat.cast_pow, Nat.cast_ofNat]

end magnitude

end Sys2Proof.Machine
end

section
/-! PROOFS. The number of a magnitude rises with the magnitude, so the order of the library is the order of the numbers
(R520, R524). -/

namespace Sys2Proof.Machine

/-! ## A magnitude as a multiple of its unit -/

section magnitude
variable (fmt : FpFormat)

/-- The number of a magnitude given as `n` units above the binade `j`, the top of the binade included. -/
theorem magnitudeRat_scaled {j n : Nat} (hn : n ≤ 2 * 2 ^ fmt.fracBits) (hj : j = 0 ∨ 2 ^ fmt.fracBits ≤ n) :
    magnitudeRat fmt (j * 2 ^ fmt.fracBits + n) = n * 2 ^ (fmt.emin + j) := by
  have hF : 0 < 2 ^ fmt.fracBits := Nat.two_pow_pos _
  have hdiv (k : Nat) {r : Nat} (hr : r < 2 ^ fmt.fracBits) : (k * 2 ^ fmt.fracBits + r) / 2 ^ fmt.fracBits = k := by
    rw [Nat.mul_comm, Nat.mul_add_div hF, Nat.div_eq_of_lt hr, Nat.add_zero]
  have hmod (k : Nat) {r : Nat} (hr : r < 2 ^ fmt.fracBits) : (k * 2 ^ fmt.fracBits + r) % 2 ^ fmt.fracBits = r := by
    rw [Nat.mul_add_mod_self_right, Nat.mod_eq_of_lt hr]
  unfold magnitudeRat significand unitExponent
  obtain hlow | hlow := Nat.lt_or_ge n (2 ^ fmt.fracBits)
  · obtain rfl : j = 0 := hj.resolve_right (Nat.not_le.2 hlow)
    rw [hdiv 0 hlow, hmod 0 hlow, if_pos rfl, Nat.zero_add, Nat.zero_sub]
  · obtain hmid | htop := hn.lt_or_eq
    · have hr : n - 2 ^ fmt.fracBits < 2 ^ fmt.fracBits := by omega
      rw [show j * 2 ^ fmt.fracBits + n = (j + 1) * 2 ^ fmt.fracBits + (n - 2 ^ fmt.fracBits) by
          rw [Nat.succ_mul]; omega, hdiv (j + 1) hr, hmod (j + 1) hr, if_neg (Nat.succ_ne_zero j),
        Nat.add_sub_cancel' hlow, Nat.add_sub_cancel]
    · rw [htop, show j * 2 ^ fmt.fracBits + 2 * 2 ^ fmt.fracBits = (j + 2) * 2 ^ fmt.fracBits + 0 by ring,
        hdiv (j + 2) hF, hmod (j + 2) hF, if_neg (Nat.succ_ne_zero (j + 1)), Nat.add_zero,
        show j + 2 - 1 = j + 1 from rfl]
      push_cast
      rw [← add_assoc, zpow_add_one₀ (by norm_num)]
      ring

/-- Every magnitude is so many units above some binade, below its top. -/
theorem exists_scaled (m : Nat) : ∃ j n, m = j * 2 ^ fmt.fracBits + n ∧ n < 2 * 2 ^ fmt.fracBits ∧
    (j = 0 ∨ 2 ^ fmt.fracBits ≤ n) := by
  have hmod := Nat.mod_lt m (Nat.two_pow_pos fmt.fracBits)
  have hdiv := Nat.div_add_mod' m (2 ^ fmt.fracBits)
  obtain h | h := Nat.eq_zero_or_pos (m / 2 ^ fmt.fracBits)
  · rw [h] at hdiv
    exact ⟨0, m, by omega, by omega, .inl rfl⟩
  · refine ⟨m / 2 ^ fmt.fracBits - 1, 2 ^ fmt.fracBits + m % 2 ^ fmt.fracBits, ?_, by omega, .inr (Nat.le_add_right ..)⟩
    obtain ⟨k, hk⟩ := Nat.exists_eq_add_of_lt h
    rw [hk] at hdiv ⊢
    rw [show 0 + k + 1 - 1 = k by omega]
    rw [Nat.zero_add, Nat.succ_mul] at hdiv
    omega

/-- The next magnitude stands for a greater number: it is one more unit of the same binade. -/
theorem magnitudeRat_strictMono : StrictMono (magnitudeRat fmt) := by
  refine strictMono_nat_of_lt_succ fun m => ?_
  obtain ⟨j, n, rfl, hn, hj⟩ := exists_scaled fmt m
  rw [Nat.add_assoc, magnitudeRat_scaled fmt hn.le hj, magnitudeRat_scaled fmt hn (hj.imp_right Nat.le_succ_of_le)]
  gcongr
  exact Nat.lt_succ_self n

@[simp] theorem magnitudeRat_zero : magnitudeRat fmt 0 = 0 := by
  simp [magnitudeRat, significand]

theorem magnitudeRat_eq_zero_iff (m : Nat) : magnitudeRat fmt m = 0 ↔ m = 0 := by
  rw [← magnitudeRat_zero fmt, (magnitudeRat_strictMono fmt).injective.eq_iff]

/-- What the magnitude of infinity would stand for: the power above the largest finite number. -/
theorem magnitudeRat_inf (he : 2 ≤ fmt.expBits) :
    magnitudeRat fmt (fpInfMagnitude fmt) = 2 ^ (2 ^ (fmt.expBits - 1) : ℕ) := by
  have hpow : 2 ^ fmt.expBits = 2 * 2 ^ (fmt.expBits - 1) := by
    rw [← pow_succ', Nat.sub_add_cancel (by omega)]
  have htwo := Nat.pow_le_pow_right (show 0 < 2 by decide) (show 1 ≤ fmt.expBits - 1 by omega)
  have hsplit : fpInfMagnitude fmt = (2 ^ fmt.expBits - 2) * 2 ^ fmt.fracBits + 2 ^ fmt.fracBits := by
    rw [fpInfMagnitude, ← Nat.succ_mul, Nat.succ_eq_add_one, show 2 ^ fmt.expBits - 2 + 1 = 2 ^ fmt.expBits - 1 by omega]
  rw [hsplit, magnitudeRat_scaled fmt (by omega) (.inr le_rfl), Nat.cast_pow, Nat.cast_ofNat, ← zpow_natCast,
    ← zpow_natCast, ← zpow_add₀ (by norm_num), FpFormat.emin, Nat.cast_sub (by omega), hpow]
  congr 1
  push_cast
  ring

end magnitude

/-! ## The number of a pattern -/

section pattern
variable {fmt : FpFormat} {b : Nat}

/-- A pattern stands for a number when its magnitude is below that of infinity. -/
theorem fpRat_eq_some_iff {x : ℚ} : fpRat fmt b = some x ↔
    fpMagnitude fmt b < fpInfMagnitude fmt ∧ signed (fpSign fmt b) (magnitudeRat fmt (fpMagnitude fmt b)) = x := by
  rw [fpRat_eq]
  by_cases h : fpMagnitude fmt b < fpInfMagnitude fmt <;> simp [h]

/-- What a finite pattern denotes, with the number it stands for. -/
theorem fpUnpack_of_rat {x : ℚ} (h : fpRat fmt b = some x) :
    ∃ m e, fpUnpack fmt b = .finite (fpSign fmt b) m e ∧ x = signed (fpSign fmt b) ((m : ℚ) * 2 ^ e) := by
  obtain ⟨hlt, rfl⟩ := fpRat_eq_some_iff.1 h
  exact ⟨_, _, by rw [fpUnpack_eq, if_pos hlt], rfl⟩

theorem fpUnpack_of_isInf {neg : Bool} (h : IsInf fmt neg b) : fpUnpack fmt b = .inf neg := by
  rw [fpUnpack_eq, h.magnitude, h.sign, if_neg (lt_irrefl _), if_pos rfl]

theorem fpUnpack_of_isNaN (h : IsNaN fmt b) : fpUnpack fmt b = .nan := by
  rw [isNaN_iff] at h
  rw [fpUnpack_eq, if_neg (Nat.not_lt.2 h.le), if_neg h.ne']

/-- A pattern that stands for no number is an infinity or a NaN. -/
theorem fpUnpack_of_rat_none (h : fpRat fmt b = none) :
    fpUnpack fmt b = .inf (fpSign fmt b) ∨ fpUnpack fmt b = .nan := by
  have hge : ¬fpMagnitude fmt b < fpInfMagnitude fmt := fun hlt => by simp [fpRat_eq, hlt] at h
  rw [fpUnpack_eq, if_neg hge]
  split
  · exact .inl rfl
  · exact .inr rfl

/-! ## The order (R520, R524) -/

/-- The number of an ordering key, as a function of all the integers. -/
def keyRat (fmt : FpFormat) (k : ℤ) : ℚ := k.sign * magnitudeRat fmt k.natAbs

theorem keyRat_neg (fmt : FpFormat) (k : ℤ) : keyRat fmt (-k) = -keyRat fmt k := by
  simp [keyRat]

theorem keyRat_natCast (fmt : FpFormat) (n : ℕ) : keyRat fmt n = magnitudeRat fmt n := by
  obtain rfl | hpos := Nat.eq_zero_or_pos n
  · simp [keyRat]
  · rw [keyRat, Int.sign_eq_one_of_pos (Int.natCast_pos.2 hpos), Int.cast_one, one_mul, Int.natAbs_natCast]

theorem keyRat_strictMono (fmt : FpFormat) : StrictMono (keyRat fmt) := by
  refine strictMono_of_odd_strictMonoOn_nonneg (keyRat_neg fmt) ?_
  intro j hj k hk hlt
  obtain ⟨m, rfl⟩ := Int.eq_ofNat_of_zero_le hj
  obtain ⟨n, rfl⟩ := Int.eq_ofNat_of_zero_le hk
  rw [keyRat_natCast, keyRat_natCast]
  exact magnitudeRat_strictMono fmt (Int.ofNat_lt.1 hlt)

theorem fpKey_eq (fmt : FpFormat) (b : Nat) : fpKey fmt b = signed (fpSign fmt b) (fpMagnitude fmt b : ℤ) := rfl

/-- The key of a finite pattern orders as its number. -/
theorem keyRat_fpKey {x : ℚ} (h : fpRat fmt b = some x) : keyRat fmt (fpKey fmt b) = x := by
  obtain ⟨-, rfl⟩ := fpRat_eq_some_iff.1 h
  rw [fpKey_eq]
  cases fpSign fmt b
  · exact keyRat_natCast fmt _
  · exact (keyRat_neg fmt _).trans (congrArg _ (keyRat_natCast fmt _))

/-- The key of a finite pattern lies strictly between those of the infinities. -/
theorem fpKey_lt_inf {x : ℚ} (h : fpRat fmt b = some x) :
    -(fpInfMagnitude fmt : ℤ) < fpKey fmt b ∧ fpKey fmt b < fpInfMagnitude fmt := by
  obtain ⟨hlt, -⟩ := fpRat_eq_some_iff.1 h
  rw [fpKey_eq]
  cases fpSign fmt b
  · rw [signed_false]
    omega
  · rw [signed_true]
    omega

theorem IsInf.key {neg : Bool} (h : IsInf fmt neg b) : fpKey fmt b = signed neg (fpInfMagnitude fmt : ℤ) := by
  rw [fpKey_eq, h.sign, h.magnitude]

theorem fpInfMagnitude_pos (he : 2 ≤ fmt.expBits) : 0 < fpInfMagnitude fmt := by
  have := Nat.pow_le_pow_right (show 0 < 2 by decide) he
  exact Nat.mul_pos (by omega) (Nat.two_pow_pos _)

/-- Equal magnitudes order by their signs. -/
theorem signed_order {p : ℤ} (hp : 0 < p) (m n : Bool) :
    decide (signed m p < signed n p) = (m && !n) ∧ decide (signed m p = signed n p) = decide (m = n) := by
  have hlt : -p < p := by omega
  cases m <;> cases n <;> simp [hlt, hlt.not_gt, hlt.ne, hlt.ne']

/-- Settles O57: the numbers rise with the keys, and the keys of the infinities lie outside. -/
theorem fpOrderIsNumeric : Obligations.FpOrderIsNumeric := by
  intro fmt hfmt a b _ _
  have hpos : (0 : ℤ) < fpInfMagnitude fmt := Int.natCast_pos.2 (fpInfMagnitude_pos (format_bounds hfmt).1)
  refine ⟨fpIsNaN_iff fmt a, fun x y hx hy => ?_, fun x neg hx hb => ?_, fun m n ha hb => ?_⟩
  · rw [fpLt, fpEq, decide_eq_true_eq, decide_eq_true_eq, ← keyRat_fpKey hx, ← keyRat_fpKey hy,
      (keyRat_strictMono fmt).lt_iff_lt, (keyRat_strictMono fmt).injective.eq_iff]
    exact ⟨.rfl, .rfl⟩
  · obtain ⟨hlow, hhigh⟩ := fpKey_lt_inf hx
    simp only [fpLt, fpEq, hb.key]
    cases neg
    · simp [hhigh, hhigh.not_gt, hhigh.ne, hhigh.ne']
    · simp [hlow, hlow.not_gt, hlow.ne, hlow.ne']
  · rw [fpLt, fpEq, ha.key, hb.key]
    exact signed_order hpos m n

end pattern

end Sys2Proof.Machine
end

section
/-! PROOFS. Rounding (R522): the multiple of the unit the library chooses is the exact quotient rounded in the mode, and
the exact result of an integer conversion follows. -/

namespace Sys2Proof.Machine

/-! ## Signs in the reals -/

section signed
variable (neg : Bool)

theorem abs_signed (y : ℝ) : |signed neg y| = |y| := by
  cases neg <;> simp

theorem signed_sub (x y : ℝ) : signed neg x - signed neg y = signed neg (x - y) := by
  cases neg
  · rfl
  · simp only [signed_true]
    ring

theorem signed_mul_signed (x y : ℝ) : signed neg x * signed neg y = x * y := by
  cases neg <;> simp

theorem signed_div (x y : ℝ) : signed neg x / y = signed neg (x / y) := by
  cases neg
  · rfl
  · exact neg_div _ _

theorem signed_mul (x y : ℝ) : signed neg x * y = signed neg (x * y) := by
  cases neg
  · rfl
  · exact neg_mul _ _

theorem cast_signed_int (n : ℤ) : ((signed neg n : ℤ) : ℝ) = signed neg (n : ℝ) := by
  cases neg <;> simp

theorem cast_signed_rat (y : ℚ) : ((signed neg y : ℚ) : ℝ) = signed neg (y : ℝ) := by
  cases neg <;> simp

theorem signed_injective : Function.Injective (signed neg : ℝ → ℝ) := by
  cases neg
  · exact Function.injective_id
  · exact neg_injective

theorem even_signed (n : ℤ) : Even (signed neg n) ↔ Even n := by
  cases neg
  · rfl
  · exact even_neg

end signed

/-! ## The four modes (R522) -/

section modes
variable {x : ℝ} {n : ℤ}

theorem roundsTo_nearest : RoundsTo 0#2 x n ↔ |x - n| ≤ 1 / 2 ∧ (|x - n| = 1 / 2 → Even n) := by
  simp [RoundsTo]

theorem roundsTo_zero : RoundsTo 1#2 x n ↔ 0 ≤ n * x ∧ |(n : ℝ)| ≤ |x| ∧ |x| < |(n : ℝ)| + 1 := by
  simp [RoundsTo]

theorem roundsTo_plus : RoundsTo 2#2 x n ↔ x ≤ n ∧ n < x + 1 := by
  simp [RoundsTo]

theorem roundsTo_minus : RoundsTo 3#2 x n ↔ n ≤ x ∧ x < n + 1 := by
  simp [RoundsTo]

theorem mode_cases (rm : BitVec 2) : rm = 0#2 ∨ rm = 1#2 ∨ rm = 2#2 ∨ rm = 3#2 := by
  revert rm
  decide

/-- In every mode the rounded number is less than one away. -/
theorem RoundsTo.abs_sub_lt_one {rm : BitVec 2} (h : RoundsTo rm x n) : |x - n| < 1 := by
  obtain rfl | rfl | rfl | rfl := mode_cases rm
  · exact (roundsTo_nearest.1 h).1.trans_lt (by norm_num)
  · obtain ⟨hsign, hle, hlt⟩ := roundsTo_zero.1 h
    have hside : |x - n| = |x| - |(n : ℝ)| := by
      obtain hx | hx := le_total 0 x <;> obtain hn | hn := le_total 0 (n : ℝ)
      · rw [abs_of_nonneg hx, abs_of_nonneg hn] at *
        exact abs_of_nonneg (sub_nonneg.2 hle)
      · obtain h0 | h0 := mul_eq_zero.1 (le_antisymm (mul_nonpos_of_nonpos_of_nonneg hn hx) hsign)
        · simp [h0]
        · simp only [h0, abs_zero, abs_nonpos_iff] at hle
          simp [h0, hle]
      · obtain h0 | h0 := mul_eq_zero.1 (le_antisymm (mul_nonpos_of_nonneg_of_nonpos hn hx) hsign)
        · simp [h0]
        · simp only [h0, abs_zero, abs_nonpos_iff] at hle
          simp [h0, hle]
      · rw [abs_of_nonpos hx, abs_of_nonpos hn] at *
        rw [abs_of_nonpos (by linarith)]
        ring
    linarith
  · obtain ⟨hle, hlt⟩ := roundsTo_plus.1 h
    exact abs_lt.2 ⟨by linarith, by linarith⟩
  · obtain ⟨hle, hlt⟩ := roundsTo_minus.1 h
    exact abs_lt.2 ⟨by linarith, by linarith⟩

end modes

/-! ## The multiple the library chooses -/

section choice
variable {rm : BitVec 2} {neg : Bool} {f r d : ℕ}

/-- The truncated magnitude `f` with remainder `r` of `d`, moved up or not. -/
def roundedUp (rm : BitVec 2) (neg : Bool) (f r d : ℕ) : ℕ := f + if fpRoundUp rm neg f r d then 1 else 0

theorem roundedUp_cases (rm : BitVec 2) (neg : Bool) (f r d : ℕ) :
    (fpRoundUp rm neg f r d = false ∧ roundedUp rm neg f r d = f) ∨
      (fpRoundUp rm neg f r d = true ∧ roundedUp rm neg f r d = f + 1) := by
  unfold roundedUp
  cases fpRoundUp rm neg f r d <;> simp

/-- Nothing is rounded up when there is no remainder. -/
theorem fpRoundUp_exact (hd : 0 < d) : fpRoundUp rm neg f 0 d = false := by
  have hne : d ≠ 0 := hd.ne'
  unfold fpRoundUp
  split
  · simp [hne.symm]
  · split
    · rfl
    · split <;> simp

variable (hd : 0 < d) (hr : r < d)
include hd

theorem half_lt_iff : (1 / 2 : ℝ) < r / d ↔ d < 2 * r := by
  rw [div_lt_div_iff₀ two_pos (Nat.cast_pos.2 hd), one_mul, mul_comm]
  exact_mod_cast Iff.rfl

theorem eq_half_iff : (r / d : ℝ) = 1 / 2 ↔ 2 * r = d := by
  rw [div_eq_div_iff (Nat.cast_ne_zero.2 hd.ne') two_ne_zero, one_mul, mul_comm]
  exact_mod_cast Iff.rfl

include hr

/-- The remainder as a part of one unit. -/
theorem remainder_lt_one : (r / d : ℝ) < 1 := (div_lt_one (Nat.cast_pos.2 hd)).2 (Nat.cast_lt.2 hr)

/-- Round to nearest, ties to even. -/
theorem roundedUp_nearest : RoundsTo 0#2 (signed neg (f + r / d : ℝ)) (signed neg (roundedUp 0#2 neg f r d : ℤ)) := by
  have hup : fpRoundUp 0#2 neg f r d = true ↔ (1 / 2 : ℝ) < r / d ∨ ((r / d : ℝ) = 1 / 2 ∧ f % 2 = 1) := by
    rw [half_lt_iff hd, eq_half_iff hd]
    simp [fpRoundUp]
  have hone := remainder_lt_one hd hr
  have hnonneg : (0 : ℝ) ≤ r / d := by positivity
  rw [roundsTo_nearest, cast_signed_int, signed_sub, abs_signed, even_signed]
  obtain ⟨hno, hn⟩ | ⟨hyes, hn⟩ := roundedUp_cases 0#2 neg f r d
  · rw [hn, Int.cast_natCast, add_sub_cancel_left, abs_of_nonneg hnonneg, Int.even_coe_nat]
    rw [← Bool.not_eq_true, hup, not_or] at hno
    obtain ⟨hle, htie⟩ := hno
    refine ⟨not_lt.1 hle, fun h => Nat.even_iff.2 ?_⟩
    have heven : ¬f % 2 = 1 := fun hodd => htie ⟨h, hodd⟩
    omega
  · rw [hn, Int.cast_natCast, Nat.cast_succ, show (f + r / d - (f + 1) : ℝ) = -(1 - r / d) by ring, abs_neg,
      abs_of_nonneg (by linarith), Int.even_coe_nat]
    obtain hgt | ⟨heq, hodd⟩ := hup.1 hyes
    · exact ⟨by linarith, fun h => by linarith⟩
    · exact ⟨by linarith, fun _ => Nat.even_iff.2 (by omega)⟩

/-- Round toward zero. -/
theorem roundedUp_zero : RoundsTo 1#2 (signed neg (f + r / d : ℝ)) (signed neg (roundedUp 1#2 neg f r d : ℤ)) := by
  have hn : roundedUp 1#2 neg f r d = f := rfl
  have hone := remainder_lt_one hd hr
  have hnonneg : (0 : ℝ) ≤ r / d := by positivity
  have hf : (0 : ℝ) ≤ f := f.cast_nonneg
  rw [roundsTo_zero, cast_signed_int, signed_mul_signed, abs_signed, abs_signed, hn, Int.cast_natCast, abs_of_nonneg hf,
    abs_of_nonneg (by positivity)]
  exact ⟨by positivity, by linarith, by linarith⟩

/-- Rounding away from zero exactly when there is a remainder. -/
theorem roundedUp_away (h : fpRoundUp rm neg f r d = decide (r ≠ 0)) :
    (f + r / d : ℝ) ≤ roundedUp rm neg f r d ∧ (roundedUp rm neg f r d : ℝ) < f + r / d + 1 := by
  have hone := remainder_lt_one hd hr
  obtain rfl | hpos := Nat.eq_zero_or_pos r
  · simp [roundedUp, h]
  · have : (0 : ℝ) < r / d := by positivity
    rw [roundedUp, h, decide_eq_true hpos.ne', if_pos rfl, Nat.cast_succ]
    exact ⟨by linarith, by linarith⟩

/-- Rounding toward zero. -/
theorem roundedUp_toward (h : fpRoundUp rm neg f r d = false) :
    (roundedUp rm neg f r d : ℝ) ≤ f + r / d ∧ (f + r / d : ℝ) < roundedUp rm neg f r d + 1 := by
  have hone := remainder_lt_one hd hr
  have hnonneg : (0 : ℝ) ≤ r / d := by positivity
  rw [roundedUp, h, if_neg Bool.false_ne_true, Nat.add_zero]
  exact ⟨by linarith, by linarith⟩

/-- The multiple the library chooses is the rounded quotient, in every mode (R522). -/
theorem roundedUp_roundsTo :
    RoundsTo rm (signed neg (f + r / d : ℝ)) (signed neg (roundedUp rm neg f r d : ℤ)) := by
  obtain rfl | rfl | rfl | rfl := mode_cases rm
  · exact roundedUp_nearest hd hr
  · exact roundedUp_zero hd hr
  · rw [roundsTo_plus, cast_signed_int, Int.cast_natCast]
    cases neg with
    | false => exact roundedUp_away hd hr rfl
    | true =>
      obtain ⟨hle, hlt⟩ := roundedUp_toward (rm := 2#2) (neg := true) (f := f) hd hr rfl
      exact ⟨neg_le_neg hle, by rw [signed_true, signed_true]; linarith⟩
  · rw [roundsTo_minus, cast_signed_int, Int.cast_natCast]
    cases neg with
    | false => exact roundedUp_toward hd hr rfl
    | true =>
      obtain ⟨hle, hlt⟩ := roundedUp_away (rm := 3#2) (neg := true) (f := f) hd hr rfl
      exact ⟨neg_le_neg hle, by rw [signed_true, signed_true]; linarith⟩

/-- The multiple is the quotient itself exactly when there is no remainder. -/
theorem roundedUp_inexact_iff : r ≠ 0 ↔ (roundedUp rm neg f r d : ℝ) ≠ f + r / d := by
  constructor
  · intro hne
    have hone := remainder_lt_one hd hr
    have hpos : (0 : ℝ) < r / d := div_pos (Nat.cast_pos.2 (Nat.pos_of_ne_zero hne)) (Nat.cast_pos.2 hd)
    obtain ⟨-, hn⟩ | ⟨-, hn⟩ := roundedUp_cases rm neg f r d
    · rw [hn]
      exact fun h => by linarith
    · rw [hn, Nat.cast_succ]
      exact fun h => by linarith
  · rintro hne rfl
    exact hne (by simp [roundedUp, fpRoundUp_exact hd])

end choice

/-! ## Powers of two and quotients -/

/-- A power of two as a quotient of natural powers. -/
theorem two_zpow_eq_div (k : ℤ) : (2 : ℝ) ^ k = 2 ^ k.toNat / 2 ^ (-k).toNat := by
  rw [← zpow_natCast, ← zpow_natCast, ← zpow_sub₀ two_ne_zero, Int.toNat_sub_toNat_neg]

/-- The exact value a rounding starts from. -/
noncomputable def exactValue (num den : ℕ) (e : ℤ) : ℝ := num / den * 2 ^ e

theorem exactValue_pos {num den : ℕ} (hnum : 0 < num) (hden : 0 < den) (e : ℤ) : 0 < exactValue num den e := by
  unfold exactValue
  positivity

section quotient
variable {num den : ℕ} (hden : 0 < den) (rm : BitVec 2) (neg : Bool) (e q : ℤ)

/-- The quotient the library forms is the exact value in units of `2^q`. -/
theorem quotient_eq : ((num * 2 ^ (e - q).toNat : ℕ) : ℝ) / ((den * 2 ^ (q - e).toNat : ℕ) : ℝ) =
    exactValue num den e / 2 ^ q := by
  rw [exactValue, mul_div_assoc, ← zpow_sub₀ two_ne_zero, two_zpow_eq_div, neg_sub, div_mul_div_comm]
  push_cast
  rfl

include hden

/-- The exact value in units of `2^q` is the truncated quotient and its remainder. -/
theorem exactValue_div_unit : exactValue num den e / 2 ^ q =
    ((num * 2 ^ (e - q).toNat / (den * 2 ^ (q - e).toNat) : ℕ) : ℝ) +
      ((num * 2 ^ (e - q).toNat % (den * 2 ^ (q - e).toNat) : ℕ) : ℝ) / ((den * 2 ^ (q - e).toNat : ℕ) : ℝ) := by
  have hd : ((den * 2 ^ (q - e).toNat : ℕ) : ℝ) ≠ 0 := Nat.cast_ne_zero.2 (by positivity)
  rw [← quotient_eq, div_eq_iff hd, add_mul, div_mul_cancel₀ _ hd, ← Nat.cast_mul, ← Nat.cast_add, Nat.div_add_mod']

/-- The library's rounding to a multiple of `2^q` is correct in the mode, and reports when it is inexact (R522). -/
theorem fpRoundAt_spec :
    RoundsTo rm (signed neg (exactValue num den e / 2 ^ q)) (signed neg ((fpRoundAt rm neg num den e q).1 : ℤ)) ∧
      ((fpRoundAt rm neg num den e q).2 = true ↔
        ((fpRoundAt rm neg num den e q).1 : ℝ) ≠ exactValue num den e / 2 ^ q) := by
  have hd : 0 < den * 2 ^ (q - e).toNat := by positivity
  rw [exactValue_div_unit hden e q]
  refine ⟨roundedUp_roundsTo hd (Nat.mod_lt _ hd), ?_⟩
  exact decide_eq_true_iff.trans (roundedUp_inexact_iff hd (Nat.mod_lt _ hd))

end quotient

/-! ## Rounding a rational number to an integer (R522, R523) -/

theorem roundInt_nearest {x : ℚ} {n : ℤ} (h : RoundsTo 0#2 (x : ℝ) n) : n = roundInt 0#2 x := by
  obtain ⟨hle, htie⟩ := roundsTo_nearest.1 h
  have hle : |x - n| ≤ 1 / 2 := by
    rw [← Rat.cast_le (K := ℝ)]
    simpa using hle
  have htie : |x - n| = 1 / 2 → Even n := fun heq => htie (by
    have := congrArg (Rat.cast : ℚ → ℝ) heq
    simpa using this)
  obtain ⟨hlow, hhigh⟩ := abs_le.1 hle
  have hfloor := Int.floor_le x
  have hceil := Int.lt_floor_add_one x
  have hge : ⌊x⌋ ≤ n := by
    have : ((⌊x⌋ : ℤ) : ℚ) < ((n + 1 : ℤ) : ℚ) := by push_cast; linarith
    exact Int.lt_add_one_iff.1 (Int.cast_lt.1 this)
  have hn : n = ⌊x⌋ ∨ n = ⌊x⌋ + 1 := by
    have : ((n : ℤ) : ℚ) < ((⌊x⌋ + 2 : ℤ) : ℚ) := by push_cast; linarith
    have := Int.cast_lt.1 this
    omega
  simp only [roundInt, if_true]
  obtain rfl | rfl := hn
  · have hnot : ¬1 / 2 < x - (⌊x⌋ : ℤ) := not_lt.2 hhigh
    by_cases hlt : x - (⌊x⌋ : ℤ) < 1 / 2
    · rw [if_pos hlt]
    · have heven := htie (by rw [le_antisymm hhigh (not_lt.1 hlt)]; norm_num)
      rw [if_neg hlt, if_neg hnot, if_pos (Int.even_iff.1 heven)]
  · push_cast at hlow htie
    have hnot : ¬x - (⌊x⌋ : ℤ) < 1 / 2 := not_lt.2 (by linarith)
    by_cases hgt : 1 / 2 < x - (⌊x⌋ : ℤ)
    · rw [if_neg hnot, if_pos hgt]
    · have hhalf : x - (⌊x⌋ : ℤ) = 1 / 2 := le_antisymm (not_lt.1 hgt) (not_lt.1 hnot)
      have heven := htie (by rw [show x - ((⌊x⌋ : ℤ) + 1) = -(1 / 2) by linarith]; norm_num)
      rw [if_neg hnot, if_neg hgt, if_neg]
      rw [Int.even_iff] at heven
      omega

theorem roundInt_zero {x : ℚ} {n : ℤ} (h : RoundsTo 1#2 (x : ℝ) n) : n = roundInt 1#2 x := by
  obtain ⟨hsign, hle, hlt⟩ := roundsTo_zero.1 h
  have hsign : (0 : ℚ) ≤ n * x := by exact_mod_cast hsign
  have hle : |(n : ℚ)| ≤ |x| := by exact_mod_cast hle
  have hlt : |x| < |(n : ℚ)| + 1 := by exact_mod_cast hlt
  change n = if 0 ≤ x then ⌊x⌋ else ⌈x⌉
  by_cases hx : 0 ≤ x
  · rw [abs_of_nonneg hx] at hle hlt
    have hn : (0 : ℚ) ≤ n := by
      by_contra! hn
      rw [abs_of_neg hn] at hle
      nlinarith
    rw [abs_of_nonneg hn] at hle hlt
    rw [if_pos hx]
    exact (Int.floor_eq_iff.2 ⟨hle, hlt⟩).symm
  · rw [not_le] at hx
    rw [abs_of_neg hx] at hle hlt
    have hn : (n : ℚ) ≤ 0 := by
      by_contra! hn
      nlinarith
    rw [abs_of_nonpos hn] at hle hlt
    rw [if_neg (not_le.2 hx)]
    exact (Int.ceil_eq_iff.2 ⟨by linarith, by linarith⟩).symm

/-- What a rounded number is, computed from floors and ceilings. -/
theorem RoundsTo.eq_roundInt {rm : BitVec 2} {x : ℚ} {n : ℤ} (h : RoundsTo rm (x : ℝ) n) : n = roundInt rm x := by
  obtain rfl | rfl | rfl | rfl := mode_cases rm
  · exact roundInt_nearest h
  · exact roundInt_zero h
  · obtain ⟨hle, hlt⟩ := roundsTo_plus.1 h
    refine (Int.ceil_eq_iff.2 ⟨?_, ?_⟩).symm
    · exact_mod_cast sub_lt_iff_lt_add.2 hlt
    · exact_mod_cast hle
  · obtain ⟨hle, hlt⟩ := roundsTo_minus.1 h
    refine (Int.floor_eq_iff.2 ⟨?_, ?_⟩).symm
    · exact_mod_cast hle
    · exact_mod_cast hlt

/-- The library's conversion to an integer is the number of the pattern rounded (R522, R523). -/
theorem fpToInt_eq_intResult (fmt : FpFormat) (w : Nat) (invalid : BitVec w) (rm : BitVec 2) (a : Nat) :
    ((fpToInt fmt w invalid rm a).1.toNat, (fpToInt fmt w invalid rm a).2) = intResult fmt w invalid rm a := by
  cases hx : fpRat fmt a with
  | none =>
    have hinvalid : fpToInt fmt w invalid rm a = (invalid, fpFlags true false false false false) := by
      obtain h | h := fpUnpack_of_rat_none hx <;> rw [fpToInt, h]
    rw [hinvalid, intResult, hx]
    rfl
  | some x =>
    obtain ⟨m, e, hunpack, hxm⟩ := fpUnpack_of_rat hx
    have hvalue : ((x : ℚ) : ℝ) = signed (fpSign fmt a) (exactValue m 1 e / 2 ^ (0 : ℤ)) := by
      rw [hxm, cast_signed_rat, exactValue]
      simp
    obtain ⟨hround, hinexact⟩ := fpRoundAt_spec one_pos rm (fpSign fmt a) (num := m) e 0
    rw [← hvalue] at hround
    have hi : signed (fpSign fmt a) ((fpRoundAt rm (fpSign fmt a) m 1 e 0).1 : ℤ) = roundInt rm x := hround.eq_roundInt
    have hflag : (fpRoundAt rm (fpSign fmt a) m 1 e 0).2 = decide ((roundInt rm x : ℚ) ≠ x) := by
      rw [Bool.eq_iff_iff, hinexact, decide_eq_true_eq, ← hi, ← (Rat.cast_injective (α := ℝ)).ne_iff, hvalue,
        Rat.cast_intCast, cast_signed_int, Int.cast_natCast, (signed_injective _).ne_iff]
    have hrange : roundInt rm x ≤ 2 ^ (w - 1) - 1 ↔ roundInt rm x < 2 ^ (w - 1) := Int.le_sub_one_iff
    rw [fpToInt, hunpack, intResult, hx]
    dsimp only
    rw [show (if fpSign fmt a = true then _ else _ : ℤ) = roundInt rm x from hi, hflag]
    simp only [hrange]
    split
    · by_cases hexact : (roundInt rm x : ℚ) = x
      · simp [hexact, fpFlags]
      · simp [hexact, fpFlags]
    · rfl

/-- Settles O54: each conversion is its template, and the library's result the rounded number of the pattern. -/
theorem fpToInteger : Obligations.FpToInteger := by
  intro s d a hcu rm wS wD lS lD
  have hwS (m : BitVec 2) : wS m = toIntW s fmtS m (single s a) := (fpToInt_eq_intResult ..).symm
  have hwD (m : BitVec 2) : wD m = toIntW s fmtD m s.f[a.val].toNat := (fpToInt_eq_intResult ..).symm
  have hlS (m : BitVec 2) : lS m = toIntL s fmtS m (single s a) := (fpToInt_eq_intResult ..).symm
  have hlD (m : BitVec 2) : lD m = toIntL s fmtD m s.f[a.val].toNat := (fpToInt_eq_intResult ..).symm
  simp only [hwS, hwD, hlS, hlD]
  refine ⟨fun p hp => ?_, fun p hp => ?_, fun p hp => ?_, fun p hp => ?_⟩
  · have fixed (m : BitVec 2) := unarySS_finishes (d := d) (a := a) hcu fun _ _ v => toIntW s fmtS m v
    fin_cases hp
    exacts [fixed 0, fixed 1, fixed 2, fixed 3, unarySS_finishes hcu fun rm _ v => toIntW s fmtS rm v]
  · have fixed (m : BitVec 2) := unaryDS_finishes (d := d) (a := a) hcu fun _ _ v => toIntW s fmtD m v
    fin_cases hp
    exacts [fixed 0, fixed 1, fixed 2, fixed 3, unaryDS_finishes hcu fun rm _ v => toIntW s fmtD rm v]
  · have fixed (m : BitVec 2) := unarySD_finishes (d := d) (a := a) hcu fun _ _ v => toIntL s fmtS m v
    fin_cases hp
    exacts [fixed 0, fixed 1, fixed 2, fixed 3, unarySD_finishes hcu fun rm _ v => toIntL s fmtS rm v]
  · have fixed (m : BitVec 2) := unaryDD_finishes (d := d) (a := a) hcu fun _ _ v => toIntL s fmtD m v
    fin_cases hp
    exacts [fixed 0, fixed 1, fixed 2, fixed 3, unaryDD_finishes hcu fun rm _ v => toIntL s fmtD rm v]

end Sys2Proof.Machine
end

section
/-! PROOFS. The correctly rounded result (R520): the binade of the exact value, the multiple of its unit, overflow and
underflow, and the results of addition, subtraction, multiplication, division and the conversions. -/

namespace Sys2Proof.Machine

/-! ## The binade of the exact value -/

section log
variable {num den : ℕ} (hnum : 0 < num) (hden : 0 < den)
include hnum hden

/-- The quotient lies in the binade of the difference of the logarithms, or in the one below it. -/
theorem log2_difference_bounds : (2 : ℝ) ^ ((num.log2 : ℤ) - den.log2 - 1) ≤ num / den ∧
    (num / den : ℝ) < 2 ^ ((num.log2 : ℤ) - den.log2 + 1) := by
  have hnlow : (2 : ℝ) ^ num.log2 ≤ num := by exact_mod_cast Nat.log2_self_le hnum.ne'
  have hnhigh : (num : ℝ) < 2 ^ (num.log2 + 1) := by exact_mod_cast Nat.lt_log2_self
  have hdlow : (2 : ℝ) ^ den.log2 ≤ den := by exact_mod_cast Nat.log2_self_le hden.ne'
  have hdhigh : (den : ℝ) < 2 ^ (den.log2 + 1) := by exact_mod_cast Nat.lt_log2_self
  have hdpos : (0 : ℝ) < den := Nat.cast_pos.2 hden
  constructor
  · rw [show (num.log2 : ℤ) - den.log2 - 1 = (num.log2 : ℕ) - (den.log2 + 1 : ℕ) by push_cast; ring,
      zpow_sub₀ two_ne_zero, zpow_natCast, zpow_natCast]
    exact div_le_div₀ (Nat.cast_nonneg _) hnlow hdpos hdhigh.le
  · rw [show (num.log2 : ℤ) - den.log2 + 1 = (num.log2 + 1 : ℕ) - (den.log2 : ℕ) by push_cast; ring,
      zpow_sub₀ two_ne_zero, zpow_natCast, zpow_natCast]
    exact div_lt_div₀ hnhigh hdlow (by positivity) (by positivity)

/-- The library's logarithm is the floor of the binary logarithm of the quotient. -/
theorem fpLog2_bounds : (2 : ℝ) ^ fpLog2 num den ≤ num / den ∧ (num / den : ℝ) < 2 ^ (fpLog2 num den + 1) := by
  obtain ⟨hlow, hhigh⟩ := log2_difference_bounds hnum hden
  have htest (k : ℤ) : den * 2 ^ k.toNat ≤ num * 2 ^ (-k).toNat ↔ (2 : ℝ) ^ k ≤ num / den := by
    rw [two_zpow_eq_div, div_le_div_iff₀ (by positivity) (Nat.cast_pos.2 hden), mul_comm ((2 : ℝ) ^ k.toNat)]
    exact_mod_cast Iff.rfl
  unfold fpLog2
  simp only [htest]
  split
  next h => exact ⟨h, hhigh⟩
  next h => exact ⟨hlow, by rw [sub_add_cancel]; exact not_le.1 h⟩

end log

/-! ## The unit of the result -/

/-- The exponent of the unit of the exact value's binade. -/
def binadeUnit (fmt : FpFormat) (num den : ℕ) (e : ℤ) : ℤ := fpLog2 num den + e - (fmt.fracBits : ℤ)

/-- The exponent of the unit the result is rounded to: that of the binade, or that of the smallest numbers. -/
def roundUnit (fmt : FpFormat) (num den : ℕ) (e : ℤ) : ℤ :=
  if binadeUnit fmt num den e < fmt.emin then fmt.emin else binadeUnit fmt num den e

section unit
variable (fmt : FpFormat) {num den : ℕ} (hnum : 0 < num) (hden : 0 < den) (e : ℤ)

theorem emin_le_roundUnit : fmt.emin ≤ roundUnit fmt num den e := by
  unfold roundUnit
  split
  · exact le_rfl
  · exact not_lt.1 ‹_›

theorem binadeUnit_le_roundUnit : binadeUnit fmt num den e ≤ roundUnit fmt num den e := by
  unfold roundUnit
  split
  · exact le_of_lt ‹_›
  · exact le_rfl

/-- The unit is that of the binade, or of the smallest numbers. -/
theorem roundUnit_cases : (binadeUnit fmt num den e < fmt.emin ∧ roundUnit fmt num den e = fmt.emin) ∨
    (fmt.emin ≤ binadeUnit fmt num den e ∧ roundUnit fmt num den e = binadeUnit fmt num den e) := by
  unfold roundUnit
  split
  · exact .inl ⟨‹_›, rfl⟩
  · exact .inr ⟨not_lt.1 ‹_›, rfl⟩

include hnum hden

/-- The exact value lies in its binade. -/
theorem exactValue_binade :
    (2 : ℝ) ^ (binadeUnit fmt num den e + fmt.fracBits) ≤ exactValue num den e ∧
      exactValue num den e < 2 ^ (binadeUnit fmt num den e + fmt.fracBits + 1) := by
  obtain ⟨hlow, hhigh⟩ := fpLog2_bounds hnum hden
  have he : (0 : ℝ) < 2 ^ e := by positivity
  rw [binadeUnit, sub_add_cancel, exactValue, show fpLog2 num den + e + 1 = fpLog2 num den + 1 + e by ring,
    zpow_add₀ two_ne_zero, zpow_add₀ two_ne_zero]
  exact ⟨mul_le_mul_of_nonneg_right hlow he.le, mul_lt_mul_of_pos_right hhigh he⟩

theorem exactValue_lt_roundUnit :
    exactValue num den e < 2 ^ (roundUnit fmt num den e + fmt.fracBits + 1) := by
  refine (exactValue_binade fmt hnum hden e).2.trans_le (zpow_le_zpow_right₀ one_le_two ?_)
  have := binadeUnit_le_roundUnit fmt (num := num) (den := den) e
  omega

theorem roundUnit_le_exactValue :
    (2 : ℝ) ^ (roundUnit fmt num den e + fmt.fracBits) ≤ exactValue num den e ∨ roundUnit fmt num den e = fmt.emin := by
  obtain ⟨-, h⟩ | ⟨-, h⟩ := roundUnit_cases fmt (num := num) (den := den) e
  · exact .inr h
  · rw [h]
    exact .inl (exactValue_binade fmt hnum hden e).1

end unit

/-! ## The multiple and the magnitude -/

section multiple
variable (fmt : FpFormat) (rm : BitVec 2) (neg : Bool) {num den : ℕ} (hnum : 0 < num) (hden : 0 < den) (e q : ℤ)

include hden

/-- The multiple is less than one unit away from the exact value. -/
theorem fpRoundAt_near : |exactValue num den e / 2 ^ q - (fpRoundAt rm neg num den e q).1| < 1 := by
  have h := (fpRoundAt_spec hden rm neg (num := num) e q).1.abs_sub_lt_one
  rwa [cast_signed_int, Int.cast_natCast, signed_sub, abs_signed] at h

/-- A bound of the exact value that is a multiple of the unit bounds the rounded value. -/
theorem fpRoundAt_le {k : ℕ} (h : exactValue num den e ≤ k * 2 ^ q) : (fpRoundAt rm neg num den e q).1 ≤ k := by
  have hnear := (abs_lt.1 (fpRoundAt_near rm neg hden (num := num) e q)).1
  have hk : exactValue num den e / 2 ^ q ≤ k := (div_le_iff₀ (by positivity)).2 h
  have : ((fpRoundAt rm neg num den e q).1 : ℝ) < (k + 1 : ℕ) := by
    push_cast
    linarith
  exact Nat.lt_succ_iff.1 (Nat.cast_lt.1 this)

theorem le_fpRoundAt {k : ℕ} (h : k * 2 ^ q ≤ exactValue num den e) : k ≤ (fpRoundAt rm neg num den e q).1 := by
  have hnear := (abs_lt.1 (fpRoundAt_near rm neg hden (num := num) e q)).2
  have hk : (k : ℝ) ≤ exactValue num den e / 2 ^ q := (le_div_iff₀ (by positivity)).2 h
  have : (k : ℝ) < ((fpRoundAt rm neg num den e q).1 + 1 : ℕ) := by
    push_cast
    linarith
  exact Nat.lt_succ_iff.1 (Nat.cast_lt.1 this)

include hnum

/-- The multiple of the unit of the result reaches the top of the binade at most. -/
theorem fpRoundAt_roundUnit_le :
    (fpRoundAt rm neg num den e (roundUnit fmt num den e)).1 ≤ 2 * 2 ^ fmt.fracBits := by
  refine fpRoundAt_le rm neg hden e _ ((exactValue_lt_roundUnit fmt hnum hden e).le.trans_eq ?_)
  rw [add_assoc, zpow_add₀ two_ne_zero, zpow_add_one₀ two_ne_zero, zpow_natCast]
  push_cast
  ring

/-- Above the smallest unit the multiple fills the significand. -/
theorem le_fpRoundAt_roundUnit : (roundUnit fmt num den e - fmt.emin).toNat = 0 ∨
    2 ^ fmt.fracBits ≤ (fpRoundAt rm neg num den e (roundUnit fmt num den e)).1 := by
  obtain h | h := roundUnit_le_exactValue fmt hnum hden e
  · refine .inr (le_fpRoundAt rm neg hden e _ ?_)
    rwa [Nat.cast_pow, Nat.cast_ofNat, ← zpow_natCast, ← zpow_add₀ two_ne_zero, add_comm]
  · exact .inl (by rw [h, sub_self, Int.toNat_zero])

end multiple

/-- The magnitude the library packs, the next binade reached by a carry. -/
def roundedMagnitude (fmt : FpFormat) (rm : BitVec 2) (neg : Bool) (num den : ℕ) (e : ℤ) : ℕ :=
  (roundUnit fmt num den e - fmt.emin).toNat * 2 ^ fmt.fracBits +
    (fpRoundAt rm neg num den e (roundUnit fmt num den e)).1

section magnitude
variable (fmt : FpFormat) (rm : BitVec 2) (neg : Bool) {num den : ℕ} (hnum : 0 < num) (hden : 0 < den) (e : ℤ)
include hnum hden

/-- The packed magnitude stands for the multiple of the unit. -/
theorem magnitudeRat_rounded : (magnitudeRat fmt (roundedMagnitude fmt rm neg num den e) : ℝ) =
    (fpRoundAt rm neg num den e (roundUnit fmt num den e)).1 * 2 ^ roundUnit fmt num den e := by
  have hunit : fmt.emin + (roundUnit fmt num den e - fmt.emin).toNat = roundUnit fmt num den e := by
    rw [Int.toNat_of_nonneg (sub_nonneg.2 (emin_le_roundUnit fmt e)), add_sub_cancel]
  rw [roundedMagnitude, magnitudeRat_scaled fmt (fpRoundAt_roundUnit_le fmt rm neg hnum hden e)
    (le_fpRoundAt_roundUnit fmt rm neg hnum hden e), hunit]
  push_cast
  rfl

/-- The magnitude reaches infinity when the rounded value reaches the power above the largest finite number. -/
theorem overflow_iff (he : 2 ≤ fmt.expBits) : fpInfMagnitude fmt ≤ roundedMagnitude fmt rm neg num den e ↔
    (2 : ℝ) ^ (2 ^ (fmt.expBits - 1) : ℕ) ≤
      (fpRoundAt rm neg num den e (roundUnit fmt num den e)).1 * 2 ^ roundUnit fmt num den e := by
  rw [← magnitudeRat_rounded fmt rm neg hnum hden e, ← (magnitudeRat_strictMono fmt).le_iff_le,
    magnitudeRat_inf fmt he, ← Rat.cast_le (K := ℝ)]
  push_cast
  rfl

end magnitude

/-! ## Underflow -/

/-- The exact value rounds up to the next binade at the unit of its own binade, so it is not tiny after rounding. -/
def carriesOut (fmt : FpFormat) (rm : BitVec 2) (neg : Bool) (num den : ℕ) (e : ℤ) : Prop :=
  binadeUnit fmt num den e + 1 = fmt.emin ∧
    (fpRoundAt rm neg num den e (binadeUnit fmt num den e)).1 = 2 ^ (fmt.fracBits + 1)

/-- The two ends of the library's rounding of a non-zero value: an overflow, or a finite result with U only for a tiny
value, and with U for an inexact tiny one. -/
theorem fpRound_cases (fmt : FpFormat) (rm : BitVec 2) (enU neg : Bool) {num den : ℕ} (hnum : 0 < num) (e : ℤ) :
    (fpInfMagnitude fmt ≤ roundedMagnitude fmt rm neg num den e ∧
      fpRound fmt rm enU neg num den e = (fpOverflow fmt rm neg, 0x05#5)) ∨
    (roundedMagnitude fmt rm neg num den e < fpInfMagnitude fmt ∧
      ∃ u, fpRound fmt rm enU neg num den e = (fpPack fmt neg (roundedMagnitude fmt rm neg num den e),
          fpFlags false false false u (fpRoundAt rm neg num den e (roundUnit fmt num den e)).2) ∧
        (u = true → binadeUnit fmt num den e < fmt.emin ∧
          ((fpRoundAt rm neg num den e (roundUnit fmt num den e)).2 = true ∨ enU = true)) ∧
        (binadeUnit fmt num den e < fmt.emin →
          (fpRoundAt rm neg num den e (roundUnit fmt num den e)).2 = true →
          ¬carriesOut fmt rm neg num den e → u = true)) := by
  have hunfold : fpRound fmt rm enU neg num den e =
      if fpInfMagnitude fmt ≤ roundedMagnitude fmt rm neg num den e then (fpOverflow fmt rm neg, 0x05#5)
      else (fpPack fmt neg (roundedMagnitude fmt rm neg num den e), fpFlags false false false
        (((decide (binadeUnit fmt num den e < fmt.emin) &&
            !(decide (binadeUnit fmt num den e + 1 = fmt.emin) &&
              decide ((fpRoundAt rm neg num den e (binadeUnit fmt num den e)).1 = 2 ^ (fmt.fracBits + 1)))) ||
          (decide (binadeUnit fmt num den e < fmt.emin) && Config.tininessBeforeRounding)) &&
          ((fpRoundAt rm neg num den e (roundUnit fmt num den e)).2 || (enU && Config.underflowOnExactTiny)))
        (fpRoundAt rm neg num den e (roundUnit fmt num den e)).2) := if_neg hnum.ne'
  obtain h | h := Nat.lt_or_ge (roundedMagnitude fmt rm neg num den e) (fpInfMagnitude fmt)
  · rw [if_neg (Nat.not_le.2 h)] at hunfold
    refine .inr ⟨h, _, hunfold, fun hu => ?_, fun htiny hinexact hcarry => ?_⟩
    · simp only [Bool.and_eq_true, Bool.or_eq_true, decide_eq_true_eq] at hu
      obtain ⟨htiny, hreport⟩ := hu
      exact ⟨htiny.elim And.left And.left, hreport.imp_right And.left⟩
    · rw [carriesOut] at hcarry
      simp [htiny, hinexact]
      tauto
  · exact .inl ⟨h, hunfold.trans (if_pos h)⟩

/-- Rounding at twice the unit keeps at least half of an even multiple. -/
theorem RoundsTo.half_le {rm : BitVec 2} {neg : Bool} {t : ℝ} {k n : ℕ} (ht : 0 ≤ t)
    (hfine : RoundsTo rm (signed neg (2 * t)) (signed neg ((2 * k : ℕ) : ℤ)))
    (hcoarse : RoundsTo rm (signed neg t) (signed neg (n : ℤ))) : k ≤ n := by
  by_contra! hlt
  have hstep : (n : ℝ) + 1 ≤ k := by exact_mod_cast hlt
  obtain rfl | rfl | rfl | rfl := mode_cases rm
  · have h1 := (roundsTo_nearest.1 hfine).1
    have h2 := (roundsTo_nearest.1 hcoarse).1
    rw [cast_signed_int, signed_sub, abs_signed, abs_le] at h1 h2
    push_cast at h1 h2
    linarith
  · have h1 := (roundsTo_zero.1 hfine).2.1
    have h2 := (roundsTo_zero.1 hcoarse).2.2
    rw [cast_signed_int, abs_signed, abs_signed, abs_of_nonneg (by positivity), abs_of_nonneg (by positivity)] at h1 h2
    push_cast at h1 h2
    linarith
  · obtain ⟨h1, h1'⟩ := roundsTo_plus.1 hfine
    obtain ⟨h2, h2'⟩ := roundsTo_plus.1 hcoarse
    rw [cast_signed_int] at h1 h1' h2 h2'
    cases neg <;> simp only [signed_true, signed_false] at h1 h1' h2 h2' <;> push_cast at h1 h1' h2 h2' <;> linarith
  · obtain ⟨h1, h1'⟩ := roundsTo_minus.1 hfine
    obtain ⟨h2, h2'⟩ := roundsTo_minus.1 hcoarse
    rw [cast_signed_int] at h1 h1' h2 h2'
    cases neg <;> simp only [signed_true, signed_false] at h1 h1' h2 h2' <;> push_cast at h1 h1' h2 h2' <;> linarith

end Sys2Proof.Machine
end

section
/-! PROOFS. The library's rounding gives the correctly rounded result and flags (R520), so addition, subtraction,
multiplication, division and the conversions do. -/

namespace Sys2Proof.Machine

/-! ## Results below the least normal number -/

section least
variable (fmt : FpFormat) (rm : BitVec 2) (neg : Bool) {num den : ℕ} (hnum : 0 < num) (hden : 0 < den) (e : ℤ)
include hden

/-- A value that carries out of its own binade also fills the significand at the least unit. -/
theorem le_fpRoundAt_emin_of_carriesOut (h : carriesOut fmt rm neg num den e) :
    2 ^ fmt.fracBits ≤ (fpRoundAt rm neg num den e fmt.emin).1 := by
  obtain ⟨hunit, htop⟩ := h
  have hfine := (fpRoundAt_spec hden rm neg (num := num) e (binadeUnit fmt num den e)).1
  have hcoarse := (fpRoundAt_spec hden rm neg (num := num) e fmt.emin).1
  have hdouble : exactValue num den e / 2 ^ binadeUnit fmt num den e = 2 * (exactValue num den e / 2 ^ fmt.emin) := by
    rw [← hunit, zpow_add_one₀ two_ne_zero]
    field_simp
  rw [htop, hdouble, pow_succ'] at hfine
  refine RoundsTo.half_le ?_ hfine hcoarse
  unfold exactValue
  positivity

include hnum

/-- A rounded value below the least normal number comes from a lower binade and does not carry out of it. -/
theorem tiny_of_rounded_lt (h : ((fpRoundAt rm neg num den e (roundUnit fmt num den e)).1 : ℝ) *
      2 ^ roundUnit fmt num den e < 2 ^ (fmt.emin + fmt.fracBits)) :
    binadeUnit fmt num den e < fmt.emin ∧ ¬carriesOut fmt rm neg num den e := by
  have hlt : (fpRoundAt rm neg num den e (roundUnit fmt num den e)).1 < 2 ^ fmt.fracBits := by
    by_contra! hge
    refine absurd h (not_lt.2 ?_)
    rw [add_comm, zpow_add₀ two_ne_zero, zpow_natCast]
    gcongr
    · exact_mod_cast hge
    · exact one_le_two
    · exact emin_le_roundUnit fmt e
  obtain ⟨htiny, hunit⟩ | ⟨hnormal, hunit⟩ := roundUnit_cases fmt (num := num) (den := den) e
  · rw [hunit] at hlt
    exact ⟨htiny, fun hcarry => absurd (le_fpRoundAt_emin_of_carriesOut fmt rm neg hden e hcarry) (not_le.2 hlt)⟩
  · refine absurd (le_fpRoundAt rm neg hden e _ ?_) (not_le.2 hlt)
    rw [hunit, Nat.cast_pow, Nat.cast_ofNat, ← zpow_natCast, ← zpow_add₀ two_ne_zero, add_comm]
    exact (exactValue_binade fmt hnum hden e).1

end least

/-! ## The two ends -/

section ends
variable (fmt : FpFormat) (rm : BitVec 2) (neg : Bool)

/-- The flag set of a finite result. -/
theorem fpFlags_finite (u i : Bool) : (fpFlags false false false u i).extractLsb' 2 3 = 0#3 ∧
    (fpFlags false false false u i).getLsbD 0 = i ∧ (fpFlags false false false u i).getLsbD 1 = u := by
  cases u <;> cases i <;> decide

/-- A packed finite magnitude stands for its number. -/
theorem fpRat_fpPack {mag : ℕ} (h : mag < fpInfMagnitude fmt) :
    fpRat fmt (fpPack fmt neg mag) = some (signed neg (magnitudeRat fmt mag)) := by
  have hlt := h.trans (fpInfMagnitude_lt fmt)
  rw [fpRat_eq_some_iff, fpMagnitude_fpPack fmt neg hlt, fpSign_fpPack fmt neg hlt]
  exact ⟨h, rfl⟩

/-- The modes in which an overflow of a sign gives an infinity. -/
def overflowsToInf (rm : BitVec 2) (neg : Bool) : Prop := rm = 0#2 ∨ (rm = 2#2 ∧ neg = false) ∨ (rm = 3#2 ∧ neg = true)

theorem fpOverflow_toInf (h : overflowsToInf rm neg) : IsInf fmt neg (fpOverflow fmt rm neg) := by
  rw [isInf_iff_eq, fpInf]
  obtain rfl | ⟨rfl, rfl⟩ | ⟨rfl, rfl⟩ := h <;> rfl

/-- Otherwise it gives the largest finite number, whose pattern is the one before the infinity. -/
theorem fpOverflow_toMax (he : 2 ≤ fmt.expBits) (h : ¬overflowsToInf rm neg) :
    IsInf fmt neg (fpOverflow fmt rm neg + 1) := by
  have hmax : fpOverflow fmt rm neg = fpPack fmt neg (fpInfMagnitude fmt - 1) := by
    obtain rfl | rfl | rfl | rfl := mode_cases rm
    · exact absurd (.inl rfl) h
    · rfl
    · cases neg
      · exact absurd (.inr (.inl ⟨rfl, rfl⟩)) h
      · rfl
    · cases neg
      · rfl
      · exact absurd (.inr (.inr ⟨rfl, rfl⟩)) h
  rw [isInf_iff_eq, fpInf, hmax, fpPack, fpPack, Nat.add_assoc, Nat.sub_add_cancel (fpInfMagnitude_pos he)]

end ends

section rounding
variable {fmt : FpFormat} (he : 2 ≤ fmt.expBits) (rm : BitVec 2) (enU neg : Bool) {num den : ℕ} (hnum : 0 < num)
  (hden : 0 < den) (e : ℤ)
include he hnum hden

/-- The library's rounding is correct (R520). -/
theorem fpRound_correctlyRounded :
    CorrectlyRounded fmt rm enU (signed neg (exactValue num den e)) (fpRound fmt rm enU neg num den e) := by
  have hpos := exactValue_pos hnum hden e
  have hnegative : signed neg (exactValue num den e) < 0 ↔ neg = true := by
    cases neg <;> simp [hpos, hpos.le]
  have hpositive : 0 < signed neg (exactValue num den e) ↔ neg = false := by
    cases neg <;> simp [hpos, hpos.le]
  obtain ⟨hround, hinexact⟩ := fpRoundAt_spec hden rm neg (num := num) e (roundUnit fmt num den e)
  have hoverflow := overflow_iff fmt rm neg hnum hden e he
  have htiny := tiny_of_rounded_lt fmt rm neg hnum hden e
  refine ⟨roundUnit fmt num den e, signed neg ((fpRoundAt rm neg num den e (roundUnit fmt num den e)).1 : ℤ), ?_⟩
  rw [leastUnit_eq, abs_signed, abs_of_pos hpos, signed_div, cast_signed_int, abs_signed, Int.cast_natCast, Nat.abs_cast]
  simp only [hnegative, hpositive, Bool.decide_eq_true]
  refine ⟨emin_le_roundUnit fmt e, exactValue_lt_roundUnit fmt hnum hden e, roundUnit_le_exactValue fmt hnum hden e,
    hround, ?_⟩
  obtain ⟨hinf, hres⟩ | ⟨hfin, u, hres, hu, hu'⟩ := fpRound_cases fmt rm enU neg (den := den) hnum e
  · rw [hres]
    refine ⟨fun hlt => absurd (hoverflow.1 hinf) (not_le.2 hlt), fun _ => ⟨rfl, ?_, ?_⟩⟩
    · exact fpOverflow_toInf fmt rm neg
    · exact fpOverflow_toMax fmt rm neg he
  · rw [hres]
    refine ⟨fun _ => ?_, fun hge => absurd (hoverflow.2 hge) (not_le.2 hfin)⟩
    obtain ⟨hhigh, hI, hU⟩ := fpFlags_finite u (fpRoundAt rm neg num den e (roundUnit fmt num den e)).2
    dsimp only
    rw [hhigh, hI, hU, signed_mul]
    refine ⟨⟨_, fpRat_fpPack fmt neg hfin, ?_⟩, ?_, rfl, ?_, fun h => ?_, fun hlt hi => ?_⟩
    · rw [cast_signed_rat, magnitudeRat_rounded fmt rm neg hnum hden e]
    · rw [Nat.add_comm fmt.fracBits, fpPack_div fmt neg (hfin.trans (fpInfMagnitude_lt fmt))]
    · rw [hinexact, (signed_injective neg).ne_iff, Ne, Ne, eq_div_iff (by positivity)]
    · obtain ⟨hbelow, hreport⟩ := hu h
      refine ⟨(exactValue_binade fmt hnum hden e).2.trans_le (zpow_le_zpow_right₀ one_le_two ?_), hreport⟩
      omega
    · exact hu' (htiny hlt).1 hi (htiny hlt).2

/-- The form the operations use: any number whose sign and magnitude are those rounded. -/
theorem fpRound_correctlyRounded_of_eq {x : ℚ} (hx : x = signed neg ((num : ℚ) / den * 2 ^ e)) :
    CorrectlyRounded fmt rm enU x (fpRound fmt rm enU neg num den e) := by
  have hcast : (x : ℝ) = signed neg (exactValue num den e) := by
    rw [hx, cast_signed_rat, exactValue]
    push_cast
    rfl
  rw [hcast]
  exact fpRound_correctlyRounded he rm enU neg hnum hden e

end rounding

end Sys2Proof.Machine
end

section
/-! PROOFS. The operations on finite operands (R520): each rounds the exact result, so its result is correctly rounded. -/

namespace Sys2Proof.Machine

/-! ## Signs of rational numbers -/

theorem signed_xor (m n : Bool) (y : ℚ) : signed (m ^^ n) y = signed n (signed m y) := by
  cases m <;> cases n <;> simp

theorem signed_eq_zero_iff (neg : Bool) (y : ℚ) : signed neg y = 0 ↔ y = 0 := by
  cases neg <;> simp

/-- A product of two signed numbers. -/
theorem signed_mul_rat (m n : Bool) (x y : ℚ) : signed m x * signed n y = signed (m ^^ n) (x * y) := by
  cases m <;> cases n <;> simp

theorem signed_div_rat (m n : Bool) (x y : ℚ) : signed m x / signed n y = signed (m ^^ n) (x / y) := by
  cases m <;> cases n <;> simp [neg_div, div_neg]

/-- An integer is its sign and its absolute value. -/
theorem intCast_eq_signed (i : ℤ) : (i : ℚ) = signed (decide (i < 0)) (i.natAbs : ℚ) := by
  rw [Nat.cast_natAbs]
  obtain h | h := lt_or_ge i 0
  · rw [decide_eq_true h, abs_of_neg h]
    simp
  · rw [decide_eq_false (not_lt.2 h), abs_of_nonneg h, signed_false]

/-! ## The exact sum -/

/-- A significand aligned to a smaller unit. -/
theorem aligned_mul (m : ℕ) {e' e : ℤ} (h : e ≤ e') : ((m * 2 ^ (e' - e).toNat : ℕ) : ℚ) * 2 ^ e = m * 2 ^ e' := by
  push_cast
  rw [mul_assoc, ← zpow_natCast, Int.toNat_of_nonneg (sub_nonneg.2 h), ← zpow_add₀ two_ne_zero, sub_add_cancel]

/-- The exact sum of two finite numbers, in units of the smaller one. -/
def alignedSum (na : Bool) (ma : ℕ) (ea : ℤ) (nb : Bool) (mb : ℕ) (eb : ℤ) : ℤ :=
  signed na ((ma * 2 ^ (ea - min ea eb).toNat : ℕ) : ℤ) + signed nb ((mb * 2 ^ (eb - min ea eb).toNat : ℕ) : ℤ)

theorem alignedSum_mul (na : Bool) (ma : ℕ) (ea : ℤ) (nb : Bool) (mb : ℕ) (eb : ℤ) :
    (alignedSum na ma ea nb mb eb : ℚ) * 2 ^ min ea eb =
      signed na ((ma : ℚ) * 2 ^ ea) + signed nb ((mb : ℚ) * 2 ^ eb) := by
  have ha := aligned_mul ma (min_le_left ea eb)
  have hb := aligned_mul mb (min_le_right ea eb)
  rw [alignedSum, Int.cast_add, add_mul, ← ha, ← hb]
  cases na <;> cases nb <;> simp

theorem fpAddFinite_eq (fmt : FpFormat) (rm : BitVec 2) (enU na : Bool) (ma : ℕ) (ea : ℤ) (nb : Bool) (mb : ℕ) (eb : ℤ) :
    fpAddFinite fmt rm enU na ma ea nb mb eb =
      if alignedSum na ma ea nb mb eb = 0 then (fpZero fmt (if na = nb then na else decide (rm = 3#2)), 0#5)
      else fpRound fmt rm enU (decide (alignedSum na ma ea nb mb eb < 0)) (alignedSum na ma ea nb mb eb).natAbs 1
        (min ea eb) := by
  rw [alignedSum, min_def]
  rfl

section finite
variable {fmt : FpFormat} {a b : ℕ} {x y : ℚ} (hx : fpRat fmt a = some x) (hy : fpRat fmt b = some y)
  (rm : BitVec 2) (enU : Bool)
include hx

/-- What a finite pattern denotes: its sign, significand and exponent, the significand zero exactly for the number
zero. -/
theorem fpUnpack_significand : ∃ m e, fpUnpack fmt a = .finite (fpSign fmt a) m e ∧
    x = signed (fpSign fmt a) ((m : ℚ) * 2 ^ e) ∧ (m = 0 ↔ x = 0) := by
  obtain ⟨m, e, hunpack, hvalue⟩ := fpUnpack_of_rat hx
  refine ⟨m, e, hunpack, hvalue, ?_⟩
  rw [hvalue, signed_eq_zero_iff, mul_eq_zero, or_iff_left (zpow_ne_zero _ two_ne_zero), Nat.cast_eq_zero]

theorem fpConvert_correctlyRounded {dst : FpFormat} (he : 2 ≤ dst.expBits) (hne : x ≠ 0) :
    CorrectlyRounded dst rm enU (x : ℝ) (fpConvert fmt dst rm enU a) := by
  obtain ⟨m, e, ha, hxa, hz⟩ := fpUnpack_significand hx
  rw [fpConvert, ha]
  refine fpRound_correctlyRounded_of_eq he rm enU _ (Nat.pos_of_ne_zero (hz.not.2 hne)) one_pos _ ?_
  rw [hxa, Nat.cast_one, div_one]

include hy

/-- Addition and subtraction round the exact sum of the first number and the second with its sign. -/
theorem fpAddSub_eq_sum (op : FpOp) (sub : Bool) : ∃ sum e : ℤ, x + signed sub y = sum * 2 ^ e ∧
    fpAddSub fmt op sub rm enU a b =
      if sum = 0 then
        (fpZero fmt (if fpSign fmt a = (fpSign fmt b ^^ sub) then fpSign fmt a else decide (rm = 3#2)), 0#5)
      else fpRound fmt rm enU (decide (sum < 0)) sum.natAbs 1 e := by
  obtain ⟨ma, ea, ha, hxa⟩ := fpUnpack_of_rat hx
  obtain ⟨mb, eb, hb, hyb⟩ := fpUnpack_of_rat hy
  refine ⟨alignedSum (fpSign fmt a) ma ea (fpSign fmt b ^^ sub) mb eb, min ea eb, ?_, ?_⟩
  · rw [alignedSum_mul, signed_xor, ← hxa, ← hyb]
  · rw [fpAddSub, ha, hb]
    exact fpAddFinite_eq ..

theorem fpAddSub_correctlyRounded (he : 2 ≤ fmt.expBits) (op : FpOp) (sub : Bool) (hne : x + signed sub y ≠ 0) :
    CorrectlyRounded fmt rm enU ((x + signed sub y : ℚ) : ℝ) (fpAddSub fmt op sub rm enU a b) := by
  obtain ⟨sum, e, hsum, hres⟩ := fpAddSub_eq_sum hx hy rm enU op sub
  have hne' : sum ≠ 0 := by
    rintro rfl
    simp [hsum] at hne
  rw [hres, if_neg hne']
  refine fpRound_correctlyRounded_of_eq he rm enU _ (Int.natAbs_pos.2 hne') one_pos e ?_
  rw [hsum, intCast_eq_signed, Nat.cast_one, div_one]
  cases decide (sum < 0) <;> simp

theorem fpMul_correctlyRounded (he : 2 ≤ fmt.expBits) (hne : x * y ≠ 0) :
    CorrectlyRounded fmt rm enU ((x * y : ℚ) : ℝ) (fpMul fmt rm enU a b) := by
  obtain ⟨ma, ea, ha, hxa, hza⟩ := fpUnpack_significand hx
  obtain ⟨mb, eb, hb, hyb, hzb⟩ := fpUnpack_significand hy
  obtain ⟨hnx, hny⟩ := mul_ne_zero_iff.1 hne
  have hpos : 0 < ma * mb := Nat.mul_pos (Nat.pos_of_ne_zero (hza.not.2 hnx)) (Nat.pos_of_ne_zero (hzb.not.2 hny))
  rw [fpMul, ha, hb]
  refine fpRound_correctlyRounded_of_eq he rm enU _ hpos one_pos _ ?_
  rw [hxa, hyb, signed_mul_rat, zpow_add₀ two_ne_zero]
  congr 1
  push_cast
  ring

theorem fpDiv_correctlyRounded (he : 2 ≤ fmt.expBits) (hnx : x ≠ 0) (hny : y ≠ 0) :
    CorrectlyRounded fmt rm enU ((x / y : ℚ) : ℝ) (fpDiv fmt rm enU a b) := by
  obtain ⟨ma, ea, ha, hxa, hza⟩ := fpUnpack_significand hx
  obtain ⟨mb, eb, hb, hyb, hzb⟩ := fpUnpack_significand hy
  rw [fpDiv, ha, hb]
  dsimp only
  rw [if_neg (hzb.not.2 hny)]
  refine fpRound_correctlyRounded_of_eq he rm enU _ (Nat.pos_of_ne_zero (hza.not.2 hnx))
    (Nat.pos_of_ne_zero (hzb.not.2 hny)) _ ?_
  rw [hxa, hyb, signed_div_rat, zpow_sub₀ two_ne_zero, mul_div_mul_comm]

end finite

theorem fpOfInt_correctlyRounded {fmt : FpFormat} (he : 2 ≤ fmt.expBits) (rm : BitVec 2) (enU : Bool) {i : ℤ}
    (hne : i ≠ 0) : CorrectlyRounded fmt rm enU (i : ℝ) (fpOfInt fmt rm enU i) := by
  rw [← Rat.cast_intCast]
  refine fpRound_correctlyRounded_of_eq he rm enU _ (Int.natAbs_pos.2 hne) one_pos _ ?_
  rw [intCast_eq_signed, Nat.cast_one, div_one, zpow_zero, mul_one]

/-- Settles O58: each operation rounds its exact result, and the rounding is correct. -/
theorem fpResultsCorrectlyRounded : Obligations.FpResultsCorrectlyRounded := by
  intro fmt hfmt rm u a b x y i _ _ hx hy
  have he := (format_bounds hfmt).1
  refine ⟨fun hne => ?_, fun hne => ?_, fpMul_correctlyRounded hx hy rm u he, fpDiv_correctlyRounded hx hy rm u he,
    fun hne dst hdst => fpConvert_correctlyRounded hx rm u (format_bounds hdst).1 hne, fpOfInt_correctlyRounded he rm u⟩
  · exact fpAddSub_correctlyRounded hx hy rm u he .add false hne
  · have hsub : x - y = x + signed true y := sub_eq_add_neg x y
    rw [hsub] at hne ⊢
    exact fpAddSub_correctlyRounded hx hy rm u he .sub true hne

end Sys2Proof.Machine
end

section
/-! PROOFS. The square root (R520, R533): the integer root with a sticky bit lies between the same halves of units as the
real root, so both round alike. -/

namespace Sys2Proof.Machine

/-! ## The integer root -/

/-- The bits not yet decided bound the root from above. -/
theorem fpIsqrt_eq_sqrt {n : ℕ} : ∀ {k acc : ℕ}, acc * acc ≤ n → n < (acc + 2 ^ k) * (acc + 2 ^ k) →
    fpIsqrt n k acc = Nat.sqrt n
  | 0, _, hlow, hhigh => Nat.eq_sqrt.2 ⟨hlow, hhigh⟩
  | k + 1, acc, hlow, hhigh => by
    rw [fpIsqrt]
    split
    next h =>
      refine fpIsqrt_eq_sqrt h ?_
      rwa [Nat.add_assoc, ← Nat.two_mul, ← pow_succ']
    next h => exact fpIsqrt_eq_sqrt hlow (Nat.lt_of_not_le h)

/-- The number of bits the library starts with suffices. -/
theorem fpIsqrt_log2 (n : ℕ) : fpIsqrt n (Nat.log2 n / 2 + 1) 0 = Nat.sqrt n := by
  refine fpIsqrt_eq_sqrt (Nat.zero_le n) ?_
  rw [Nat.zero_add, ← pow_add]
  exact Nat.lt_log2_self.trans_le (Nat.pow_le_pow_right two_pos (by omega))

/-! ## Numbers that no half unit separates -/

/-- Two numbers lie on the same side of, or on, every multiple of a power of two from `2^h` on. -/
def AgreesFrom (h : ℤ) (x y : ℝ) : Prop :=
  ∀ k p : ℤ, h ≤ p → (k * 2 ^ p ≤ x ↔ k * 2 ^ p ≤ y) ∧ (x ≤ k * 2 ^ p ↔ y ≤ k * 2 ^ p)

/-- It is enough that no multiple of `2^h` separates them. -/
theorem agreesFrom_of_units (h : ℤ) {s t : ℝ} (hfloor : ⌊s⌋ = ⌊t⌋) (hceil : ⌈s⌉ = ⌈t⌉) :
    AgreesFrom h (s * 2 ^ h) (t * 2 ^ h) := by
  intro k p hp
  have hpos : (0 : ℝ) < 2 ^ h := by positivity
  have hsplit : (k * 2 ^ p : ℝ) = ((k * 2 ^ (p - h).toNat : ℤ) : ℝ) * 2 ^ h := by
    push_cast
    rw [mul_assoc, ← zpow_natCast, Int.toNat_of_nonneg (sub_nonneg.2 hp), ← zpow_add₀ two_ne_zero, sub_add_cancel]
  rw [hsplit]
  simp only [mul_le_mul_iff_left₀ hpos, ← Int.le_floor, ← Int.ceil_le, hfloor, hceil, and_self]

/-- Positive numbers that no half separates round alike. -/
theorem RoundsTo.congr {rm : BitVec 2} {s t : ℝ} {n : ℤ} (hs : 0 < s) (ht : 0 < t)
    (hhalf : ∀ k : ℤ, (k / 2 ≤ s ↔ k / 2 ≤ t) ∧ (s ≤ k / 2 ↔ t ≤ k / 2)) (h : RoundsTo rm s n) : RoundsTo rm t n := by
  have hle (k : ℤ) : k ≤ s ↔ k ≤ t := by
    have := (hhalf (2 * k)).1
    push_cast at this
    rwa [mul_div_cancel_left₀ _ two_ne_zero] at this
  have hge (k : ℤ) : s ≤ k ↔ t ≤ k := by
    have := (hhalf (2 * k)).2
    push_cast at this
    rwa [mul_div_cancel_left₀ _ two_ne_zero] at this
  have hlt (k : ℤ) : s < k ↔ t < k := by rw [← not_le, ← not_le, hle]
  have hgt (k : ℤ) : k < s ↔ k < t := by rw [← not_le, ← not_le, hge]
  obtain rfl | rfl | rfl | rfl := mode_cases rm
  · have hlow := hhalf (2 * n - 1)
    have hhigh := hhalf (2 * n + 1)
    push_cast at hlow hhigh
    obtain ⟨hnear, htie⟩ := roundsTo_nearest.1 h
    obtain ⟨h1, h2⟩ := abs_le.1 hnear
    have h1' : (2 * n - 1 : ℝ) / 2 ≤ t := hlow.1.1 (by linarith)
    have h2' : t ≤ (2 * n + 1 : ℝ) / 2 := hhigh.2.1 (by linarith)
    refine roundsTo_nearest.2 ⟨abs_le.2 ⟨by linarith, by linarith⟩, fun heq => htie ?_⟩
    obtain heq | heq := eq_or_eq_neg_of_abs_eq heq
    · have h3 : (2 * n + 1 : ℝ) / 2 ≤ s := hhigh.1.2 (by linarith)
      rw [abs_of_nonneg (by linarith)]
      linarith
    · have h3 : s ≤ (2 * n - 1 : ℝ) / 2 := hlow.2.2 (by linarith)
      rw [abs_of_nonpos (by linarith)]
      linarith
  · obtain ⟨hsign, hbelow, habove⟩ := roundsTo_zero.1 h
    have hn : (0 : ℝ) ≤ n := nonneg_of_mul_nonneg_left hsign hs
    rw [abs_of_nonneg hn, abs_of_pos hs] at hbelow habove
    refine roundsTo_zero.2 ⟨mul_nonneg hn ht.le, ?_⟩
    rw [abs_of_nonneg hn, abs_of_pos ht]
    have := hlt (n + 1)
    push_cast at this
    exact ⟨(hle n).1 hbelow, this.1 habove⟩
  · obtain ⟨habove, hbelow⟩ := roundsTo_plus.1 h
    have := hgt (n - 1)
    push_cast at this
    exact roundsTo_plus.2 ⟨(hge n).1 habove, sub_lt_iff_lt_add.1 (this.1 (sub_lt_iff_lt_add.2 hbelow))⟩
  · obtain ⟨hbelow, habove⟩ := roundsTo_minus.1 h
    have := hlt (n + 1)
    push_cast at this
    exact roundsTo_minus.2 ⟨(hle n).1 hbelow, this.1 habove⟩

section agree
variable {h : ℤ} {x y : ℝ} (hagree : AgreesFrom h x y)
include hagree

/-- They compare alike with the powers of two. -/
theorem AgreesFrom.two_zpow_le_iff {p : ℤ} (hp : h ≤ p) : (2 : ℝ) ^ p ≤ x ↔ (2 : ℝ) ^ p ≤ y := by
  have := (hagree 1 p hp).1
  rwa [Int.cast_one, one_mul] at this

/-- They are the same multiples. -/
theorem AgreesFrom.eq_iff (n : ℤ) {q : ℤ} (hq : h ≤ q) : n * 2 ^ q = x ↔ n * 2 ^ q = y := by
  rw [le_antisymm_iff, le_antisymm_iff, (hagree n q hq).1, (hagree n q hq).2]

/-- No half of a greater unit separates them. -/
theorem AgreesFrom.half {q : ℤ} (hq : h < q) (k : ℤ) :
    (k / 2 ≤ x / 2 ^ q ↔ k / 2 ≤ y / 2 ^ q) ∧ (x / 2 ^ q ≤ k / 2 ↔ y / 2 ^ q ≤ k / 2) := by
  have hpos : (0 : ℝ) < 2 ^ q := by positivity
  have hhalf : (k / 2 * 2 ^ q : ℝ) = k * 2 ^ (q - 1) := by
    rw [zpow_sub_one₀ two_ne_zero]
    ring
  rw [le_div_iff₀ hpos, le_div_iff₀ hpos, div_le_iff₀ hpos, div_le_iff₀ hpos, hhalf]
  exact hagree k (q - 1) (Int.le_sub_one_of_lt hq)

/-- A correctly rounded result of one number is one of the other, when the unit lies below the result's. -/
theorem AgreesFrom.correctlyRounded {fmt : FpFormat} {rm : BitVec 2} {enU : Bool} {res : FpResult} (hx : 0 < x)
    (hy : 0 < y) (hbig : (2 : ℝ) ^ (h + fmt.fracBits + 1) ≤ x) (hres : CorrectlyRounded fmt rm enU x res) :
    CorrectlyRounded fmt rm enU y res := by
  obtain ⟨q, n, hleast, htop, hbottom, hround, hfinite, hinfinite⟩ := hres
  simp only [abs_of_pos hx, hx, hx.not_gt] at htop hbottom hfinite hinfinite
  have hq : h < q := by
    have := (zpow_lt_zpow_iff_right₀ (one_lt_two (α := ℝ))).1 (hbig.trans_lt htop)
    omega
  refine ⟨q, n, hleast, ?_⟩
  simp only [abs_of_pos hy, hy, hy.not_gt]
  refine ⟨?_, hbottom.imp_left (hagree.two_zpow_le_iff (by omega)).1,
    hround.congr (div_pos hx (by positivity)) (div_pos hy (by positivity)) (hagree.half hq), fun hlt => ?_, hinfinite⟩
  · rwa [← not_le, ← hagree.two_zpow_le_iff (by omega), not_le]
  · obtain ⟨hvalue, hsign, hflags, hinexact, hunder, hunder'⟩ := hfinite hlt
    refine ⟨hvalue, hsign, hflags, hinexact.trans (hagree.eq_iff n hq.le).not, fun hu => ?_, hunder'⟩
    obtain ⟨htiny, hreport⟩ := hunder hu
    have hleast' := (zpow_lt_zpow_iff_right₀ (one_lt_two (α := ℝ))).1 (hbig.trans_lt htiny)
    refine ⟨?_, hreport⟩
    rwa [← not_le, ← hagree.two_zpow_le_iff (by omega), not_le]

end agree

/-! ## The root and its sticky bit -/

/-- The integer root, with a half added when it is not exact. -/
noncomputable def stickyRoot (n : ℕ) : ℝ := Nat.sqrt n + if Nat.sqrt n * Nat.sqrt n = n then 0 else 1 / 2

/-- No integer separates the real root from the integer root with its half. -/
theorem stickyRoot_floor_ceil (n : ℕ) : ⌊stickyRoot n⌋ = ⌊√(n : ℝ)⌋ ∧ ⌈stickyRoot n⌉ = ⌈√(n : ℝ)⌉ := by
  unfold stickyRoot
  split
  next hexact =>
    have hroot : √(n : ℝ) = Nat.sqrt n := by
      rw [show (n : ℝ) = Nat.sqrt n * Nat.sqrt n by exact_mod_cast hexact.symm, Real.sqrt_mul_self (Nat.cast_nonneg _)]
    rw [hroot, add_zero]
    exact ⟨rfl, rfl⟩
  next hinexact =>
    have hlow : (Nat.sqrt n : ℝ) < √n := by
      refine Real.lt_sqrt_of_sq_lt ?_
      rw [sq]
      exact_mod_cast lt_of_le_of_ne (Nat.sqrt_le n) hinexact
    have hhigh : √(n : ℝ) < Nat.sqrt n + 1 := Real.real_sqrt_lt_nat_sqrt_succ
    have hbetween {t : ℝ} (h1 : (Nat.sqrt n : ℝ) < t) (h2 : t < Nat.sqrt n + 1) :
        ⌊t⌋ = Nat.sqrt n ∧ ⌈t⌉ = Nat.sqrt n + 1 :=
      ⟨Int.floor_eq_iff.2 ⟨h1.le, h2⟩, Int.ceil_eq_iff.2 ⟨by push_cast; linarith, by push_cast; linarith⟩⟩
    obtain ⟨hfloor, hceil⟩ := hbetween hlow hhigh
    rw [hfloor, hceil]
    exact hbetween (by linarith) (by linarith)

/-! ## The rounded root -/

/-- The number of bits the library appends to the significand, so that the exponent becomes even. -/
def rootShift (fmt : FpFormat) (e : ℤ) : ℕ := 2 * (fmt.fracBits + 3) + (e % 2).toNat

/-- The significand the library takes the root of. -/
def rootOperand (fmt : FpFormat) (m : ℕ) (e : ℤ) : ℕ := m * 2 ^ rootShift fmt e

/-- The exponent of the unit of the root. -/
def rootUnit (fmt : FpFormat) (e : ℤ) : ℤ := (e - rootShift fmt e) / 2

theorem two_mul_rootUnit (fmt : FpFormat) (e : ℤ) : 2 * rootUnit fmt e = e - rootShift fmt e := by
  unfold rootUnit rootShift
  omega

/-- The numerator the library rounds: twice the integer root, and one when it is not exact. -/
def stickyNumerator (n : ℕ) : ℕ := 2 * Nat.sqrt n + if Nat.sqrt n * Nat.sqrt n = n then 0 else 1

theorem exactValue_stickyNumerator (n : ℕ) (h : ℤ) : exactValue (stickyNumerator n) 1 (h - 1) = stickyRoot n * 2 ^ h := by
  rw [exactValue, stickyNumerator, stickyRoot, zpow_sub_one₀ two_ne_zero]
  split
  · push_cast
    ring
  · push_cast
    ring

section root
variable (fmt : FpFormat) {m : ℕ} (hm : 0 < m) (e : ℤ)

/-- The real root in units of the integer one. -/
theorem sqrt_eq_rootOperand : √((m : ℝ) * 2 ^ e) = √(rootOperand fmt m e : ℝ) * 2 ^ rootUnit fmt e := by
  have hsquare : (m : ℝ) * 2 ^ e = rootOperand fmt m e * (2 ^ rootUnit fmt e) ^ 2 := by
    rw [rootOperand, ← zpow_natCast, ← zpow_mul, mul_comm (rootUnit fmt e), Nat.cast_ofNat, two_mul_rootUnit]
    push_cast
    rw [mul_assoc, ← zpow_natCast, ← zpow_add₀ two_ne_zero, add_sub_cancel]
  rw [hsquare, Real.sqrt_mul (Nat.cast_nonneg _), Real.sqrt_sq (by positivity)]

include hm

/-- The integer root has more bits than the significand. -/
theorem two_pow_le_sqrt_rootOperand : 2 ^ (fmt.fracBits + 1) ≤ Nat.sqrt (rootOperand fmt m e) := by
  rw [Nat.le_sqrt, ← pow_add]
  calc 2 ^ (fmt.fracBits + 1 + (fmt.fracBits + 1)) ≤ 2 ^ rootShift fmt e :=
        Nat.pow_le_pow_right two_pos (by rw [rootShift]; omega)
    _ ≤ rootOperand fmt m e := Nat.le_mul_of_pos_left _ hm

/-- Rounding the integer root with its sticky bit rounds the real root. -/
theorem fpRound_stickyNumerator (he : 2 ≤ fmt.expBits) (rm : BitVec 2) (enU : Bool) :
    CorrectlyRounded fmt rm enU √((m : ℝ) * 2 ^ e)
      (fpRound fmt rm enU false (stickyNumerator (rootOperand fmt m e)) 1 (rootUnit fmt e - 1)) := by
  have hbits := two_pow_le_sqrt_rootOperand fmt hm e
  have hpos : 0 < stickyNumerator (rootOperand fmt m e) := by
    have := Nat.two_pow_pos (fmt.fracBits + 1)
    rw [stickyNumerator]
    omega
  have hvalue := exactValue_stickyNumerator (rootOperand fmt m e) (rootUnit fmt e)
  have hround := fpRound_correctlyRounded he rm enU false hpos one_pos (rootUnit fmt e - 1)
  obtain ⟨hfloor, hceil⟩ := stickyRoot_floor_ceil (rootOperand fmt m e)
  rw [signed_false, hvalue] at hround
  rw [sqrt_eq_rootOperand fmt]
  refine (agreesFrom_of_units _ hfloor hceil).correctlyRounded (hvalue ▸ exactValue_pos hpos one_pos _) ?_ ?_ hround
  · rw [← sqrt_eq_rootOperand fmt]
    positivity
  · rw [add_assoc, add_comm, zpow_add₀ two_ne_zero]
    gcongr
    have hbits : (2 : ℝ) ^ (fmt.fracBits + 1) ≤ Nat.sqrt (rootOperand fmt m e) := by exact_mod_cast hbits
    rw [stickyRoot]
    refine le_add_of_le_of_nonneg (by exact_mod_cast hbits) ?_
    split
    · exact le_rfl
    · exact one_half_pos.le

end root

/-- The library's root of a positive number rounds the integer root with its sticky bit. -/
theorem fpSqrt_eq_fpRound {fmt : FpFormat} {a m : ℕ} {e : ℤ} (ha : fpUnpack fmt a = .finite false m e) (hm : m ≠ 0)
    (rm : BitVec 2) (enU : Bool) : fpSqrt fmt rm enU a =
      fpRound fmt rm enU false (stickyNumerator (rootOperand fmt m e)) 1 (rootUnit fmt e - 1) := by
  rw [fpSqrt, ha]
  dsimp only
  rw [if_neg hm, if_neg Bool.false_ne_true, fpIsqrt_log2]
  rfl

/-- Settles O59: the pattern's number is the significand and exponent the root is taken of. -/
theorem fpSquareRootCorrectlyRounded : Obligations.FpSquareRootCorrectlyRounded := by
  intro fmt hfmt rm u a x _ hx hpos
  obtain ⟨m, e, ha, hvalue, hzero⟩ := fpUnpack_significand hx
  have hm : m ≠ 0 := hzero.not.2 hpos.ne'
  have hsign : fpSign fmt a = false := by
    by_contra hneg
    rw [Bool.not_eq_false] at hneg
    rw [hvalue, hneg, signed_true, neg_pos] at hpos
    exact hpos.not_ge (by positivity)
  rw [hsign] at ha hvalue
  rw [fpSqrt_eq_fpRound ha hm, hvalue, signed_false]
  push_cast
  exact fpRound_stickyNumerator fmt (Nat.pos_of_ne_zero hm) e (format_bounds hfmt).1 rm u

end Sys2Proof.Machine
end

section
/-! PROOFS. NaN operands, invalid operations, infinities and zeros (R520): what each operation returns there. -/

namespace Sys2Proof.Machine

/-! ## The special patterns -/

section special
variable (fmt : FpFormat)

/-- The NaN an operation returns is a NaN of its format. -/
theorem fpNaN_isNaN (hf : 1 ≤ fmt.fracBits) (op : FpOp) (rm : BitVec 2) (a b : ℕ) :
    IsNaN fmt (fpNaN fmt op rm a b) ∧ fpNaN fmt op rm a b < 2 ^ fmt.width := by
  have hone := Nat.pow_le_pow_right (show 0 < 2 by decide) hf
  have hfrac := Nat.mod_lt (Config.nanChoice (fpOpNumber op fmt) rm.toNat a b) (Nat.two_pow_pos fmt.fracBits)
  have hadd := fpInfMagnitude_add fmt
  unfold fpNaN
  dsimp only
  generalize Config.nanChoice (fpOpNumber op fmt) rm.toNat a b % 2 ^ fmt.fracBits = frac at hfrac
  have hlt : fpInfMagnitude fmt + (if frac = 0 then 1 else frac) < 2 ^ (fmt.expBits + fmt.fracBits) := by
    split <;> omega
  refine ⟨?_, fpPack_lt fmt _ hlt⟩
  rw [isNaN_iff, fpMagnitude_fpPack fmt _ hlt]
  split <;> omega

theorem fpZero_eq (neg : Bool) : fpZero fmt neg = if neg then 2 ^ (fmt.width - 1) else 0 := by
  rw [fpZero, fpPack, FpFormat.width, Nat.add_assoc, Nat.add_sub_cancel_left, Nat.add_zero]

theorem fpNaNFlags_eq (signalling : Bool) : fpNaNFlags signalling = if signalling then 0x10#5 else 0#5 := by
  cases signalling <;> rfl

theorem fpRound_zero (rm : BitVec 2) (enU neg : Bool) (den : ℕ) (e : ℤ) :
    fpRound fmt rm enU neg 0 den e = (fpZero fmt neg, 0#5) := if_pos rfl

/-- A pattern of the number zero is the zero of its sign. -/
theorem eq_fpZero_of_rat_zero {fmt : FpFormat} {a : ℕ} (ha : a < 2 ^ fmt.width) (h : fpRat fmt a = some 0) :
    a = fpZero fmt (fpSign fmt a) := by
  obtain ⟨-, hzero⟩ := fpRat_eq_some_iff.1 h
  rw [signed_eq_zero_iff, magnitudeRat_eq_zero_iff] at hzero
  rw [fpZero, ← hzero, fpPack_sign_magnitude ha]

end special

section operations
variable {fmt : FpFormat} {a b : ℕ} (rm : BitVec 2) (enU : Bool)

/-! ## NaN operands -/

section nan
variable (h : IsNaN fmt a ∨ IsNaN fmt b)
include h

theorem fpAddSub_of_isNaN (op : FpOp) (sub : Bool) : fpAddSub fmt op sub rm enU a b = fpPropagate fmt op rm a b := by
  obtain h | h := h
  · rw [fpAddSub, fpUnpack_of_isNaN h]
  · rw [fpAddSub, fpUnpack_of_isNaN h]
    cases fpUnpack fmt a <;> rfl

theorem fpMul_of_isNaN : fpMul fmt rm enU a b = fpPropagate fmt .mul rm a b := by
  obtain h | h := h
  · rw [fpMul, fpUnpack_of_isNaN h]
  · rw [fpMul, fpUnpack_of_isNaN h]
    cases fpUnpack fmt a <;> rfl

theorem fpDiv_of_isNaN : fpDiv fmt rm enU a b = fpPropagate fmt .div rm a b := by
  obtain h | h := h
  · rw [fpDiv, fpUnpack_of_isNaN h]
  · rw [fpDiv, fpUnpack_of_isNaN h]
    cases fpUnpack fmt a <;> rfl

end nan

/-! ## Two infinities -/

section inf
variable {m n : Bool} (ha : IsInf fmt m a) (hb : IsInf fmt n b)
include ha

theorem fpSqrt_of_isInf :
    fpSqrt fmt rm enU a = if m then fpInvalid fmt .sqrt rm a 0 else (fpInf fmt false, 0#5) := by
  rw [fpSqrt, fpUnpack_of_isInf ha]

theorem fpConvert_of_isInf (dst : FpFormat) : fpConvert fmt dst rm enU a = (fpInf dst m, 0#5) := by
  rw [fpConvert, fpUnpack_of_isInf ha]

include hb

theorem fpAddSub_of_isInf (op : FpOp) (sub : Bool) : fpAddSub fmt op sub rm enU a b =
    if m = (n ^^ sub) then (fpInf fmt m, 0#5) else fpInvalid fmt op rm a b := by
  rw [fpAddSub, fpUnpack_of_isInf ha, fpUnpack_of_isInf hb]

theorem fpMul_of_isInf : fpMul fmt rm enU a b = (fpInf fmt (m ^^ n), 0#5) := by
  rw [fpMul, fpUnpack_of_isInf ha, fpUnpack_of_isInf hb]

theorem fpDiv_of_isInf : fpDiv fmt rm enU a b = fpInvalid fmt .div rm a b := by
  rw [fpDiv, fpUnpack_of_isInf ha, fpUnpack_of_isInf hb]

end inf

/-! ## An infinity and a finite number -/

section mixed
variable {m : Bool} {y : ℚ} (ha : IsInf fmt m a) (hb : fpRat fmt b = some y)
include ha hb

theorem fpAddSub_inf_rat (op : FpOp) (sub : Bool) : fpAddSub fmt op sub rm enU a b = (fpInf fmt m, 0#5) := by
  obtain ⟨k, e, hunpack, -⟩ := fpUnpack_of_rat hb
  rw [fpAddSub, fpUnpack_of_isInf ha, hunpack]

theorem fpAddSub_rat_inf (op : FpOp) (sub : Bool) : fpAddSub fmt op sub rm enU b a = (fpInf fmt (m ^^ sub), 0#5) := by
  obtain ⟨k, e, hunpack, -⟩ := fpUnpack_of_rat hb
  rw [fpAddSub, fpUnpack_of_isInf ha, hunpack]

theorem fpDiv_inf_rat : fpDiv fmt rm enU a b = (fpInf fmt (m ^^ fpSign fmt b), 0#5) := by
  obtain ⟨k, e, hunpack, -⟩ := fpUnpack_of_rat hb
  rw [fpDiv, fpUnpack_of_isInf ha, hunpack]

theorem fpDiv_rat_inf : fpDiv fmt rm enU b a = (fpZero fmt (m ^^ fpSign fmt b), 0#5) := by
  obtain ⟨k, e, hunpack, -⟩ := fpUnpack_of_rat hb
  rw [fpDiv, fpUnpack_of_isInf ha, hunpack, Bool.xor_comm]

theorem fpMul_inf_rat : fpMul fmt rm enU a b =
    if y = 0 then fpInvalid fmt .mul rm a b else (fpInf fmt (m ^^ fpSign fmt b), 0#5) := by
  obtain ⟨k, e, hunpack, -, hzero⟩ := fpUnpack_significand hb
  rw [fpMul, fpUnpack_of_isInf ha, hunpack]
  simp only [hzero]

theorem fpMul_rat_inf : fpMul fmt rm enU b a =
    if y = 0 then fpInvalid fmt .mul rm b a else (fpInf fmt (m ^^ fpSign fmt b), 0#5) := by
  obtain ⟨k, e, hunpack, -, hzero⟩ := fpUnpack_significand hb
  rw [fpMul, fpUnpack_of_isInf ha, hunpack, Bool.xor_comm]
  simp only [hzero]

end mixed

/-! ## Finite numbers with an exact zero, invalid or infinite result -/

section finite
variable {x y : ℚ} (hx : fpRat fmt a = some x) (hy : fpRat fmt b = some y)
include hx

theorem fpSqrt_zero (hzero : x = 0) : fpSqrt fmt rm enU a = (fpZero fmt (fpSign fmt a), 0#5) := by
  obtain ⟨m, e, hunpack, -, hm⟩ := fpUnpack_significand hx
  rw [fpSqrt, hunpack]
  exact if_pos (hm.2 hzero)

theorem fpSqrt_negative (hneg : x < 0) : fpSqrt fmt rm enU a = fpInvalid fmt .sqrt rm a 0 := by
  obtain ⟨m, e, hunpack, hvalue, hm⟩ := fpUnpack_significand hx
  have hsign : fpSign fmt a = true := by
    by_contra hpos
    rw [Bool.not_eq_true] at hpos
    rw [hvalue, hpos, signed_false] at hneg
    exact hneg.not_ge (by positivity)
  rw [fpSqrt, hunpack, hsign]
  exact (if_neg (hm.not.2 hneg.ne)).trans (if_pos rfl)

theorem fpConvert_zero (dst : FpFormat) (hzero : x = 0) :
    fpConvert fmt dst rm enU a = (fpZero dst (fpSign fmt a), 0#5) := by
  obtain ⟨m, e, hunpack, -, hm⟩ := fpUnpack_significand hx
  rw [fpConvert, hunpack, hm.2 hzero]
  exact fpRound_zero ..

include hy

theorem fpAddSub_zero (op : FpOp) (sub : Bool) (hzero : x + signed sub y = 0) : fpAddSub fmt op sub rm enU a b =
    (fpZero fmt (if fpSign fmt a = (fpSign fmt b ^^ sub) then fpSign fmt a else decide (rm = 3#2)), 0#5) := by
  obtain ⟨sum, e, hsum, hres⟩ := fpAddSub_eq_sum hx hy rm enU op sub
  rw [hzero, zero_eq_mul, or_iff_left (zpow_ne_zero _ two_ne_zero), Int.cast_eq_zero] at hsum
  rw [hres, if_pos hsum]

theorem fpMul_zero (hzero : x * y = 0) : fpMul fmt rm enU a b = (fpZero fmt (fpSign fmt a ^^ fpSign fmt b), 0#5) := by
  obtain ⟨ma, ea, ha, -, hma⟩ := fpUnpack_significand hx
  obtain ⟨mb, eb, hb, -, hmb⟩ := fpUnpack_significand hy
  have hprod : ma * mb = 0 := by rw [Nat.mul_eq_zero, hma, hmb, ← mul_eq_zero, hzero]
  rw [fpMul, ha, hb]
  dsimp only
  rw [hprod, fpRound_zero]

/-- Division where one of the numbers is zero. -/
theorem fpDiv_zero (hzero : x = 0 ∨ y = 0) : fpDiv fmt rm enU a b =
    if y = 0 then
      (if x = 0 then fpInvalid fmt .div rm a b else (fpInf fmt (fpSign fmt a ^^ fpSign fmt b), 0x08#5))
    else (fpZero fmt (fpSign fmt a ^^ fpSign fmt b), 0#5) := by
  obtain ⟨ma, ea, ha, -, hma⟩ := fpUnpack_significand hx
  obtain ⟨mb, eb, hb, -, hmb⟩ := fpUnpack_significand hy
  rw [fpDiv, ha, hb]
  simp only [hma, hmb]
  split
  next => rfl
  next hne => rw [hma.2 (hzero.resolve_right hne), fpRound_zero]

end finite

end operations

/-- Settles O60: each clause is the result of its operation on the special operands it names. -/
theorem fpSpecialOperands : Obligations.FpSpecialOperands := by
  intro fmt hfmt rm u a b ha hb neg nan nanV inf zero sig
  have hnan {g : FpFormat} (hg : g ∈ [fmtS, fmtD]) (op : FpOp) (c d : ℕ) (v : Bool) :
      nan g (fpNaN g op rm c d, fpNaNFlags v) (sig v) :=
    have h := fpNaN_isNaN g (format_bounds hg).2 op rm c d
    ⟨h.1, h.2, fpNaNFlags_eq v⟩
  have hinvalid (op : FpOp) (c d : ℕ) : nanV (fpInvalid fmt op rm c d) := hnan hfmt op c d true
  have hinf (g : FpFormat) (n : Bool) : inf g (fpInf g n, 0#5) n := ⟨isInf_fpInf n, rfl⟩
  have hzero (g : FpFormat) (n : Bool) : (fpZero g n, 0#5) = zero g n := congrArg (·, 0#5) (fpZero_eq g n)
  have hna : neg a = fpSign fmt a := (fpSign_eq ha).symm
  have hnb : neg b = fpSign fmt b := (fpSign_eq hb).symm
  rw [hna, hnb]
  refine ⟨fun h r hr => ?_, fun h => ⟨?_, fun dst hdst => ?_⟩, fun m n hm hn => ?_, fun m y hm hy => ?_, fun m hm => ?_,
    fun h => ⟨?_, fun dst _ => ?_⟩, fpRound_zero .., fun x hx hlt => ?_, fun x y hx hy => ?_⟩
  -- a NaN operand
  · have hprop (op : FpOp) : nan fmt (fpPropagate fmt op rm a b) (sig (fpIsSNaN fmt a || fpIsSNaN fmt b)) :=
      hnan hfmt op a b _
    rw [fpAdd, fpSub, fpAddSub_of_isNaN rm u h, fpAddSub_of_isNaN rm u h, fpMul_of_isNaN rm u h,
      fpDiv_of_isNaN rm u h] at hr
    fin_cases hr
    exacts [hprop .add, hprop .sub, hprop .mul, hprop .div]
  · rw [fpSqrt, fpUnpack_of_isNaN h]
    exact hnan hfmt .sqrt a 0 _
  · rw [fpConvert, fpUnpack_of_isNaN h]
    exact hnan hdst .cvt a 0 _
  -- two infinities
  · have hsum := fpAddSub_of_isInf rm u hm hn
    rw [fpDiv_of_isInf rm u hm hn, fpMul_of_isInf rm u hm hn, fpAdd, fpSub, hsum, hsum, (isInf_iff_eq m a).1 hm]
    refine ⟨fun hne => ?_, fun heq => ?_, hinvalid .., hinf ..⟩
    · rw [Bool.xor_false, if_neg hne, Bool.xor_true, if_pos (Bool.eq_not.2 hne)]
      exact ⟨hinvalid .., rfl⟩
    · rw [Bool.xor_true, if_neg (heq ▸ (Bool.not_ne_self m).symm), Bool.xor_false, if_pos heq]
      exact ⟨hinvalid .., rfl⟩
  -- an infinity and a finite number
  · rw [fpAdd, fpAdd, fpSub, fpSub, fpAddSub_inf_rat rm u hm hy, fpAddSub_inf_rat rm u hm hy, fpAddSub_rat_inf rm u hm hy,
      fpAddSub_rat_inf rm u hm hy, fpDiv_inf_rat rm u hm hy, fpDiv_rat_inf rm u hm hy, fpMul_inf_rat rm u hm hy,
      fpMul_rat_inf rm u hm hy, Bool.xor_false, Bool.xor_true, ← (isInf_iff_eq m a).1 hm]
    refine ⟨rfl, rfl, rfl, hinf .., hinf .., hzero .., fun h0 => ?_, fun h0 => ?_⟩
    · rw [if_pos h0, if_pos h0]
      exact ⟨hinvalid .., hinvalid ..⟩
    · rw [if_neg h0, if_neg h0]
      exact ⟨hinf .., hinf ..⟩
  -- the root and conversions of an infinity
  · rw [fpSqrt_of_isInf rm u hm]
    refine ⟨?_, ?_, fun dst _ => ?_⟩
    · rintro rfl
      rw [(isInf_iff_eq false a).1 hm]
      rfl
    · rintro rfl
      exact hinvalid ..
    · rw [fpConvert_of_isInf rm u hm]
      exact hinf ..
  -- the root and conversions of zero, and the root of a negative number
  · rw [fpSqrt_zero rm u h rfl, ← eq_fpZero_of_rat_zero ha h]
  · rw [fpConvert_zero rm u h dst rfl]
    exact hzero ..
  · rw [fpSqrt_negative rm u hx hlt]
    exact hinvalid ..
  -- finite numbers whose result is zero, invalid or infinite
  · refine ⟨fun h => ?_, fun h => ?_, fun h => ?_, fun h0 hne => ?_, fun h0 h0' => ?_, fun hne h0 => ?_⟩
    · rw [fpAdd, fpAddSub_zero rm u hx hy .add false h, Bool.xor_false]
      exact hzero ..
    · rw [fpSub, fpAddSub_zero rm u hx hy .sub true (by rwa [signed_true, ← sub_eq_add_neg]), Bool.xor_true,
        hzero]
      simp only [Bool.eq_not, ne_eq, ite_not]
    · rw [fpMul_zero rm u hx hy h]
      exact hzero ..
    · rw [fpDiv_zero rm u hx hy (.inl h0), if_neg hne]
      exact hzero ..
    · rw [fpDiv_zero rm u hx hy (.inl h0), if_pos h0', if_pos h0]
      exact hinvalid ..
    · rw [fpDiv_zero rm u hx hy (.inr h0), if_pos h0, if_neg hne]
      exact ⟨rfl, isInf_fpInf _⟩

end Sys2Proof.Machine
end
